-- ==== Sys2Proof/Word.lean ====
section
/-! DEFINITION. Word: characters of the link and channel numbers. -/

namespace Sys2Proof

/-- One character of the link without its mark bit (R147). -/
abbrev Byte := BitVec 8

/-- A channel: index `k - 1` stands for channel `k` of 1 to 24. -/
abbrev Ch := Fin 24

/-- The 24 channels in channel order. -/
def channels : List Ch := List.finRange 24

end Sys2Proof
end

