-- ==== Sys2Proof/Syntax.lean ====
section
/-! DEFINITION. Syntax: the commands of the part, one constructor per row of spec/opcode_table.json.

Every command carries `dt`, the time in clock units that has passed since the command before it was taken
(notes/assumptions/2.md). A request carries the frame that brought it. An event at a pin, on the line or at a
timer carries what the outside world contributes to it, and nothing else. -/

namespace Sys2Proof

/-- A request as its accepted frame carries it (R150, R153): whether the address was 0x00, the TAG, and the
payload. For a row of the table that stands for one section of PROFILE_WRITE or for one selector of SET_CHARGE,
`payload` holds the characters AFTER that section or selector. -/
structure Req where
  bcast : Bool
  tag : Byte
  payload : List Byte
deriving DecidableEq, Repr

/-- The 7th, 8th and 9th samples of one bit on the line, `true` for mark (R147). -/
structure Sample3 where
  s7 : Bool
  s8 : Bool
  s9 : Bool
deriving DecidableEq, Repr

/-- The samples of a character after its start bit: eight data bits, least significant first, the mark bit and the
stop bit (R147). -/
structure CharSamples where
  data : Vector Sample3 8
  mark : Sample3
  stop : Sample3
deriving DecidableEq, Repr

/-- What the inputs of the converter stood at in the slots of one scan: VBS in millivolts, the shunt and the 24
current senses in centiamperes. The numbers are unbounded; the conversion saturates them (R7, R8, R9). -/
structure Samples where
  vbs : Int
  shunt : Int
  cs : Vector Int 24
deriving DecidableEq, Repr

/-- The orders that the spec leaves open among the blocks that one scan completion reaches
(R14, R119, R140; notes/assumptions/3.md). -/
structure CompletionOrder where
  /-- The Sequencer takes a change of the sense fault before the estimate update (R119). -/
  faultFirst : Bool
  /-- The Channel Controller takes the record before the Charge Estimator (R14). -/
  controllerFirst : Bool
  /-- Power Control makes the auto-doze test before the other blocks take the record (R140). -/
  testFirst : Bool
deriving DecidableEq, Repr

/-- The three discrete inputs (R135). -/
inductive Input where
  | shore
  | ign
  | install
deriving DecidableEq, Repr

/-- The commands. -/
inductive Instr where
  | ident (dt : Nat) (r : Req)
  | status (dt : Nat) (r : Req)
  | loadStatus (dt : Nat) (r : Req)
  | linkStatus (dt : Nat) (r : Req)
  | countersRead (dt : Nat) (r : Req)
  | measure (dt : Nat) (r : Req)
  | switch (dt : Nat) (r : Req)
  | hold (dt : Nat) (r : Req)
  | releaseHold (dt : Nat) (r : Req)
  | force (dt : Nat) (r : Req)
  | clearTrip (dt : Nat) (r : Req)
  | clearUsage (dt : Nat) (r : Req)
  | ack (dt : Nat) (r : Req)
  | mask (dt : Nat) (r : Req)
  | countersClear (dt : Nat) (r : Req)
  | clearLinkCounts (dt : Nat) (r : Req)
  | profileRead (dt : Nat) (r : Req)
  | profileWriteBattery (dt : Nat) (r : Req)
  | profileWriteTiers (dt : Nat) (r : Req)
  | profileWriteLoads (dt : Nat) (r : Req)
  | profileWriteCurve (dt : Nat) (r : Req)
  | profileWriteSequence (dt : Nat) (r : Req)
  | profileWriteNotice (dt : Nat) (r : Req)
  | profileWriteCounters (dt : Nat) (r : Req)
  | profileWriteDoze (dt : Nat) (r : Req)
  | move (dt : Nat) (r : Req)
  | save (dt : Nat) (r : Req)
  | loadDefaults (dt : Nat) (r : Req)
  | setChargeReserve (dt : Nat) (r : Req)
  | setChargeFull (dt : Nat) (r : Req)
  | doze (dt : Nat) (r : Req)
  | restart (dt : Nat) (r : Req)
  /-- A fall of the line, with the samples of the start bit it begins (R147). -/
  | startBit (dt : Nat) (start : Sample3)
  /-- The middle of the stop bit of the character in reception (R147). -/
  | characterTaken (dt : Nat) (c : CharSamples)
  /-- The line has stood at space for 22 bit times from the fall (R148). -/
  | breakHeld (dt : Nat)
  | gap (dt : Nat)
  | replyStart (dt : Nat)
  | replyEnd (dt : Nat)
  | linkQuiet (dt : Nat)
  | scanBegin (dt : Nat)
  | scanComplete (dt : Nat) (smp : Samples) (ord : CompletionOrder)
  /-- The raw level of an input changes; `low` is the new level, asserted when low (R135). -/
  | rawInputChange (dt : Nat) (i : Input) (low : Bool)
  /-- A debounce timer expires; `exitFirst` is the open order of a DOZE exit and of the Tier Monitor's and the
  Sequencer's part in the same change (notes/assumptions/3.md). -/
  | debouncedChange (dt : Nat) (i : Input) (exitFirst : Bool)
  | powerOn (dt : Nat)
  | supplyLow (dt : Nat)
  | rstn (dt : Nat)
  /-- No source holds the reset any longer; the straps as they stand at that moment (R145). -/
  | resetEnd (dt : Nat) (adr : BitVec 4) (br : BitVec 2)
  | retryExpiry (dt : Nat) (ch : Ch)
  | goodRun (dt : Nat) (ch : Ch)
  | runLockExpiry (dt : Nat) (ch : Ch)
  | restLockExpiry (dt : Nat) (ch : Ch)
  | blankingEnd (dt : Nat) (ch : Ch)
  | shedSpacingEnd (dt : Nat)
  | restoreSpacingEnd (dt : Nat)
  | settleTimeEnd (dt : Nat)
  | holdExpiry (dt : Nat) (ch : Ch)
  /-- The read-back of a save is complete; `good` when every character matches (R174). -/
  | saveEnd (dt : Nat) (good : Bool)
deriving DecidableEq, Repr

end Sys2Proof
end

