-- ==== Sys2Proof/Decode.lean ====
section
/-! DEFINITION. Decode: what a word spells. The part fetches no instruction words, and no row of spec/opcode_table.json
gives bits to its command: a request is spelled by the characters of a frame, which `Machine/Receiving.lean` reads. -/

namespace Sys2Proof

/-- The command that a word spells by the table's bits: none, since the table gives no row bits. -/
def decodeTableWord (_nbits _w : Nat) : Option Instr := none

end Sys2Proof
end

