-- ==== Sys2Proof/Config.lean ====
section
/-! DEFINITION. Config: the constants the part fixes, the unit of the model's clock, and the one free value.
The one VALUE of the part that the spec leaves open is a constant without a body; the orders and the outside
moments it leaves open are operands of the commands (notes/assumptions/1.md, 2.md, 3.md, 15.md). -/

namespace Sys2Proof.Config

/-- The clock counts units of 1/18,432,000 s, a fifth of the period of the 3.6864 MHz crystal.
It is the smallest unit in which the bit time of every strapped rate, half a bit time, the conversion slot of
250 µs (R1) and the millisecond are all whole (notes/assumptions/2.md). -/
def unitsPerSecond : Nat := 18432000

/-- One millisecond in clock units. -/
def unitsPerMs : Nat := 18432

/-- One minute in clock units. -/
def unitsPerMinute : Nat := 60 * unitsPerSecond

/-- One conversion slot, 250 µs (R1). -/
def slotUnits : Nat := 4608

/-- The debounce time of a discrete input, 50 ms (R135). -/
def debounceUnits : Nat := 50 * unitsPerMs

/-- The link-quiet limit of the force lapse, 5 s (R132). -/
def quietLimit : Nat := 5 * unitsPerSecond

/-- The good-run time, 60 s (R83). -/
def goodRunUnits : Nat := 60 * unitsPerSecond

/-- The least time from the last DOZE exit to an auto-doze entry, 60 s (R140). -/
def wakeUnits : Nat := 60 * unitsPerSecond

/-- The cap of the retry delay in seconds (R81). -/
def retryCapSeconds : Nat := 600

/-- The ceiling of a usage total and of a tally value (R88, R165). -/
def totalMax : Nat := 4294967295

/-- The ceiling of a link count and of the link-quiet report (R153, R155). -/
def countMax : Nat := 65535

/-- The ceiling of the erase count (R173). -/
def eraseMax : Nat := 10000

/-- The part code "LS24" of IDENT, as character codes (R159). -/
def partCode : List Nat := [0x4C, 0x53, 0x32, 0x34]

/-- The revision of IDENT (R159). -/
def revision : Nat := 1

/-- The format number of the profile image (R170). -/
def imageFormat : Nat := 1

/-- The most characters of a request's payload (R150). -/
def payloadMax : Nat := 56

/-- The reading in millivolts of a VBS input below zero: R7 names none, so it is a free value in the range of the
conversion, 0 to 32,767 mV (notes/assumptions/15.md). -/
opaque vbsBelowZero : Int → BitVec 15

end Sys2Proof.Config
end

