-- ==== Sys2Proof/Machine/Records.lean ====
section
/-! DEFINITION. Records: the plain data of each functional block, as the tables at the head of its chapter list it. -/

namespace Sys2Proof.Machine

/-! ### Measurement Scanner (R1 to R16) -/

/-- RUN or DOZE (R137). -/
inductive PowerState where
  | run
  | doze
deriving DecidableEq, Repr

/-- The standing of a battery quantity (R11). -/
inductive Standing where
  | valid
  | held
  | lost
deriving DecidableEq, Repr

/-- The scan record (R14). -/
structure ScanRecord where
  number : Nat
  power : PowerState
  voltage : Nat
  vStanding : Standing
  current : Int
  iStanding : Standing
  senseFault : Bool
  currents : Vector Nat 24
deriving DecidableEq, Repr

/-- A scan in flight with its plan and the moment it began (R1, R2). -/
structure Scan where
  power : PowerState
  plan : Vector Bool 24
  start : Nat
deriving DecidableEq, Repr

/-- The scanner's lasting state. `timer` is the moment the scan timer expires, absent while it is stopped. -/
structure Scanner where
  record : Option ScanRecord
  number : Nat
  lastV : Option Nat
  lastI : Option Int
  vRun : Nat
  iRun : Nat
  senseFault : Bool
  inFlight : Option Scan
  timer : Option Nat
deriving DecidableEq, Repr

/-! ### Charge Estimator (R17 to R42) -/

/-- START, TRACKING or FROZEN (R17). -/
inductive EstState where
  | start
  | tracking
  | frozen
deriving DecidableEq, Repr

/-- The BATTERY section (R35). -/
structure BatterySettings where
  capacity : Nat
  resistance : Nat
  restCurrent : Nat
  restTime : Nat
  fullVoltage : Nat
  tailCurrent : Nat
  fullHold : Nat
deriving DecidableEq, Repr

/-- A point of the rest curve: a rest voltage and a reserve (R32). -/
structure CurvePoint where
  mv : Nat
  reserve : Nat
deriving DecidableEq, Repr

/-- The Estimator's lasting state. The timers count milliseconds (R28, R30). -/
structure Estimator where
  st : EstState
  seedPending : Bool
  window : List Int
  averaged : Int
  compensated : Nat
  q : Nat
  reserve : Nat
  unconfirmed : Bool
  restTimer : Nat
  fullTimer : Nat
  fullLatched : Bool
  curve : Vector CurvePoint 16
  curveValid : Bool
  battery : BatterySettings
deriving DecidableEq, Repr

/-! ### Tier Monitor (R43 to R64) -/

/-- What a tier compares (R43). -/
inductive Measure where
  | off
  | voltage
  | reserve
deriving DecidableEq, Repr

/-- The settings of a tier (R43). The cutoff's level and release level are `falling` and `rising`; its measure is
VOLTAGE and its suppress flag clear (R44). -/
structure TierSettings where
  measure : Measure
  falling : Nat
  rising : Nat
  confirm : Nat
  release : Nat
  suppress : Bool
deriving DecidableEq, Repr

/-- The state of a tier or cutoff record (R48). -/
inductive TierState where
  | disabled
  | suppressed
  | clear
  | pending
  | active
  | releasing
deriving DecidableEq, Repr

/-- One record with its settings, state, streak count and confirming value. -/
structure TierRecord where
  cfg : TierSettings
  st : TierState
  streak : Nat
  conf : Option Nat
deriving DecidableEq, Repr

/-- The Tier Monitor's lasting state: tiers 1 to 4 at indices 0 to 3, the cutoff at index 4, and the depth. -/
structure TierMonitor where
  recs : Vector TierRecord 5
  depth : Nat
deriving DecidableEq, Repr

/-! ### Load Channels (R65 to R92) -/

/-- The class of a load (R65). -/
inductive LoadClass where
  | sheddable
  | guarded
  | exempt
deriving DecidableEq, Repr

/-- The LOADS record of one channel (R65). `guarded` is the class PROTECTED. -/
structure LoadSettings where
  fitted : Bool
  cls : LoadClass
  shedTier : Nat
  limit : Nat
  tripCount : Nat
  blanking : Nat
  retryCount : Nat
  retryDelay : Nat
  minOn : Nat
  minOff : Nat
  openLevel : Nat
  startDemand : Bool
deriving DecidableEq, Repr

/-- The protection state (R80). -/
inductive Protection where
  | normal
  | tripWait
  | latched
deriving DecidableEq, Repr

/-- The causes of R78; `shed n` is SHED_Tn. -/
inductive OffCause where
  | none
  | demand
  | shed (tier : Nat)
  | cutoff
  | trip
  | forcedOff
  | reset
deriving DecidableEq, Repr

/-- A last-off cause with its detail (R78). -/
structure LastOff where
  cause : OffCause
  detail : Nat
deriving DecidableEq, Repr

/-- A set shed mark, with the cause and the detail it was set with (R97). -/
structure Mark where
  cause : OffCause
  detail : Nat
deriving DecidableEq, Repr

/-- A value of the force table (R128). -/
inductive Force where
  | none
  | on
  | off
deriving DecidableEq, Repr

/-- One channel: its LOADS settings and the Channel Controller's working state, with the Shed Sequencer's mark and
the Override Unit's force for it. A lock or timer is the moment it ends, absent when it has passed or is stopped;
`goodRun` is the moment the good-run timer started. `onBefore` says that the output has been on since before the
scan in flight began (R80, R88; notes/assumptions/4.md). -/
structure Chan where
  cfg : LoadSettings
  out : Bool
  demand : Bool
  prot : Protection
  retries : Nat
  retryEnd : Option Nat
  overCount : Nat
  blankEnd : Option Nat
  goodRun : Option Nat
  runLock : Option Nat
  restLock : Option Nat
  openRun : Nat
  openFlag : Bool
  usage : Nat
  lastOff : LastOff
  mark : Option Mark
  force : Force
  onBefore : Bool
deriving DecidableEq, Repr

/-! ### Shed Sequencer (R93 to R120) -/

/-- The sequencer state (R115). -/
inductive SeqState where
  | settle
  | steady
  | shedding
  | restoring
  | heldBack
deriving DecidableEq, Repr

/-- The SEQUENCE section, in steps of 100 ms (R100). -/
structure SequenceSettings where
  shedSpacing : Nat
  restoreSpacing : Nat
  settleTime : Nat
deriving DecidableEq, Repr

/-- The Sequencer's lasting state, but for the marks. `order` lists the channels from position 1 to 24 (R93). -/
structure Sequencer where
  order : List Ch
  st : SeqState
  lastStep : Option Nat
  settleStart : Option Nat
  cfg : SequenceSettings
deriving DecidableEq, Repr

/-! ### Override Unit (R121 to R134) -/

/-- An entry of the hold list (R121). The expiry moment is a whole number of milliseconds of the clock
(notes/assumptions/12.md). -/
structure HoldEntry where
  ch : Ch
  expiry : Nat
  placed : Nat
deriving DecidableEq, Repr

/-! ### Power Control (R135 to R146) -/

/-- A discrete input: its raw level and debounced state, `true` when asserted, and the moment its debounce timer
expires (R135). -/
structure Pin where
  raw : Bool
  deb : Bool
  timer : Option Nat
deriving DecidableEq, Repr

/-- The recorded cause of the last reset (R142). -/
inductive ResetCause where
  | powerOn
  | supplyLow
  | pin
  | request
deriving DecidableEq, Repr

/-- The DOZE section (R139). -/
structure DozeSettings where
  auto : Bool
  delay : Nat
deriving DecidableEq, Repr

/-- Power Control's state. The straps are kept as sampled (R145). -/
structure Power where
  st : PowerState
  lastExit : Nat
  shore : Pin
  ign : Pin
  install : Pin
  cause : ResetCause
  adr : BitVec 4
  br : BitVec 2
  cfg : DozeSettings
deriving DecidableEq, Repr

/-- A reset in progress: the sources that have acted, and whether its start found a force (R134, R142). -/
structure ResetInfo where
  powerOn : Bool
  supply : Bool
  pin : Bool
  foundForce : Bool
deriving DecidableEq, Repr

/-! ### Link Interface (R147 to R160) -/

/-- The receiver state (R149). -/
inductive RxState where
  | wait
  | collect
  | send
deriving DecidableEq, Repr

/-- The nine link counts (R155). -/
structure LinkCounts where
  good : Nat
  framing : Nat
  brk : Nat
  noise : Nat
  short : Nat
  gap : Nat
  length : Nat
  crc : Nat
  dropped : Nat
deriving DecidableEq, Repr

/-- The status of a reply (R157). -/
inductive Status where
  | ok
  | clamped
  | badKind
  | badLength
  | badChannel
  | badValue
  | denied
  | busy
  | holdFull
  | notApplicable
  | worn
deriving DecidableEq, Repr

/-- The reply in preparation (R154, R156): its earliest start, and whether a warm reset follows it (R143). -/
structure Reply where
  kind : Nat
  tag : Byte
  status : Status
  payload : List Byte
  earliest : Nat
  thenReset : Bool
deriving DecidableEq, Repr

/-- A character that the part sends: its mark bit, set for an address character, and its data (R147). -/
structure LineChar where
  mark : Bool
  data : Byte
deriving DecidableEq, Repr

/-- A reply going out: its characters, the moment its first start bit began, the end of its last stop bit, and whether a
warm reset follows it (R143, R154). -/
structure Sending where
  chars : List LineChar
  began : Nat
  done : Nat
  thenReset : Bool
deriving DecidableEq, Repr

/-- The Link Interface's state. `gapEnd` is the moment the gap timer reaches 33 bit times; `charFall` the fall that
began the character in reception, with `charNoise` its noise so far; `spaceFall` the fall of a character whose
stop bit read space, while the line has not been seen to return to mark (R148); `falseEnd` the moment at which the start
bit of a false start has been read, from which the receiver looks for the next fall (R147); `quietStart` the last restart of
the link-quiet timer, with `quietHanded` whether its 5 s have been handed to the Override Unit (R153). -/
structure Link where
  rx : RxState
  buffer : List Byte
  gapEnd : Option Nat
  charFall : Option Nat
  charNoise : Bool
  spaceFall : Option Nat
  falseEnd : Option Nat
  quietStart : Nat
  quietHanded : Bool
  reply : Option Reply
  sending : Option Sending
  counts : LinkCounts
deriving DecidableEq, Repr

/-! ### Notice Unit and Tally Counters (R161 to R168) -/

/-- The Notice Unit: bit `n` of a set stands for notice code `n` (R150, R161). -/
structure Notices where
  latch : BitVec 9
  ackMark : BitVec 9
  mask : BitVec 9
  alertn : Bool
deriving DecidableEq, Repr

/-- The event kinds of R165. -/
inductive EventKind where
  | none
  | shedAction
  | restoreAction
  | tierEntry
  | cutoffEntry
  | trip
  | latch
  | holdExpiry
  | switchOn
  | openLoad
  | fullResync
  | restCorrection
  | senseFaultEntry
  | dozeEntry
  | forceLapse
deriving DecidableEq, Repr

/-- An entry of the COUNTERS section (R166). -/
structure Selector where
  kind : EventKind
  qualifier : Nat
  inhibit : Bool
  visible : Bool
deriving DecidableEq, Repr

/-- A tally counter (R165). -/
structure Counter where
  sel : Selector
  value : Nat
deriving DecidableEq, Repr

/-! ### Profile Store (R169 to R176) -/

/-- The nine sections of the profile (R170). -/
structure Profile where
  battery : BatterySettings
  tiers : Vector TierSettings 5
  loads : Vector LoadSettings 24
  order : List Ch
  curve : Vector CurvePoint 16
  sequence : SequenceSettings
  masks : BitVec 9
  counters : Vector Selector 8
  doze : DozeSettings
deriving DecidableEq, Repr

/-- A valid image: its format number, its sections and its CRC (R170). -/
structure Image where
  format : Nat
  sections : Profile
  crc : BitVec 16
deriving DecidableEq, Repr

/-- The outcome of the last save (R174). -/
inductive SaveOutcome where
  | none
  | done
  | failed
deriving DecidableEq, Repr

/-- Where the last profile load took its values (R176). -/
inductive ProfileSource where
  | store
  | factory
deriving DecidableEq, Repr

/-- The Profile Store. `image` is absent while the image is invalid; `saving` holds the gathered sections while the
save state is SAVING (R173). -/
structure Store where
  image : Option Image
  eraseCount : Nat
  saving : Option Profile
  outcome : SaveOutcome
  source : ProfileSource
deriving DecidableEq, Repr

end Sys2Proof.Machine
end

