-- ==== Sys2Proof/Machine/Factory.lean ====
section
/-! DEFINITION. Factory: the factory profile, each section as its owner's chapter gives it (R170). -/

namespace Sys2Proof.Machine

/-- The factory BATTERY section (R35). -/
def factoryBattery : BatterySettings :=
  { capacity := 100, resistance := 150, restCurrent := 50, restTime := 60, fullVoltage := 14200,
    tailCurrent := 200, fullHold := 10 }

/-- The factory TIERS section (R44). -/
def factoryTiers : Vector TierSettings 5 :=
  #v[⟨.reserve, 300, 350, 50, 250, true⟩, ⟨.reserve, 200, 250, 50, 250, true⟩,
     ⟨.voltage, 12000, 12400, 100, 250, false⟩, ⟨.voltage, 11800, 12300, 50, 250, false⟩,
     ⟨.voltage, 11500, 12500, 30, 250, false⟩]

/-- The factory LOADS record of a channel: channels 1 to 6 have shed tier 4, 7 to 12 tier 3, 13 to 18 tier 2 and
19 to 24 tier 1 (R65). -/
def factoryLoad (i : Ch) : LoadSettings :=
  { fitted := true, cls := .sheddable, shedTier := 4 - i.val / 6, limit := 1000, tripCount := 3, blanking := 5,
    retryCount := 2, retryDelay := 5, minOn := 0, minOff := 0, openLevel := 0, startDemand := false }

/-- The factory CURVE section (R32). -/
def factoryCurve : Vector CurvePoint 16 :=
  #v[⟨11800, 0⟩, ⟨12400, 50⟩, ⟨12800, 100⟩, ⟨12900, 150⟩, ⟨12950, 200⟩, ⟨13000, 300⟩, ⟨13030, 400⟩, ⟨13060, 500⟩,
     ⟨13100, 600⟩, ⟨13130, 650⟩, ⟨13160, 700⟩, ⟨13200, 750⟩, ⟨13250, 800⟩, ⟨13300, 900⟩, ⟨13400, 950⟩, ⟨13600, 1000⟩]

/-- The factory SEQUENCE section (R100). -/
def factorySequence : SequenceSettings := { shedSpacing := 20, restoreSpacing := 100, settleTime := 30 }

/-- A factory entry of COUNTERS: kind NONE, not inhibited and visible (R168). -/
def factorySelector : Selector := { kind := .none, qualifier := 0, inhibit := false, visible := true }

/-- The factory profile (R170): with the factory order of channel k at position k (R93), no notice masked (R164) and
the factory DOZE section (R139). -/
def factoryProfile : Profile :=
  { battery := factoryBattery
    tiers := factoryTiers
    loads := Vector.ofFn factoryLoad
    order := channels
    curve := factoryCurve
    sequence := factorySequence
    masks := 0
    counters := Vector.replicate 8 factorySelector
    doze := { auto := true, delay := 15 } }

end Sys2Proof.Machine
end

