-- ==== Sys2Proof/Machine/State.lean ====
section
/-! DEFINITION. State: the whole part as plain data, the reasons a step can stop, and the state after reset. -/

namespace Sys2Proof.Machine

/-- The reasons for which the part would stop. The spec stops the part nowhere, so there is none: a command that
cannot occur in a state (an expiry of a stopped timer, a request during a reset) leaves the state as it stands
(notes/assumptions/5.md). Safe: nothing raises a fault. -/
inductive Fault : Type
deriving DecidableEq, Repr

/-- The reasons for which a command is refused a meaning. -/
inductive Refusal where
  /-- Raised by an arm of `exec` whose command has no meaning yet; no arm answers it. Safe. -/
  | notModelled (mnemonic : String)
deriving DecidableEq, Repr

/-- The part. `now` is the clock, in the units of `Config`; `inReset` the reset in progress, if any; `pending` the
queue of commands that wait, first in, first out. -/
structure State where
  now : Nat
  inReset : Option ResetInfo
  scanner : Scanner
  est : Estimator
  tiers : TierMonitor
  chans : Vector Chan 24
  seq : Sequencer
  holds : List HoldEntry
  power : Power
  link : Link
  notices : Notices
  tally : Vector Counter 8
  store : Store
  pending : List Instr
deriving DecidableEq, Repr

/-- All nine link counts at 0 (R155). -/
def LinkCounts.zero : LinkCounts := ⟨0, 0, 0, 0, 0, 0, 0, 0, 0⟩

/-- A channel at the end of a cold reset, before its first derivation and marking (R91). -/
def Chan.fresh (cfg : LoadSettings) : Chan :=
  { cfg := cfg, out := false, demand := false, prot := .normal, retries := 0, retryEnd := none, overCount := 0,
    blankEnd := none, goodRun := none, runLock := none, restLock := none, openRun := 0, openFlag := false,
    usage := 0, lastOff := ⟨.none, 0⟩, mark := none, force := .none, onBefore := false }

/-- An input that stands de-asserted and has been debounced. -/
def Pin.released : Pin := { raw := false, deb := false, timer := none }

/-- The part at the end of a power-on reset with the store as it leaves the factory (R169): the values of the AFTER
RESET rules R16, R41, R64, R91, R120, R134, R146, R155, R164, R168 and R176 with the factory profile. The first scan
has begun (R16), RESTART and STORE are latched and ALERTN is driven low (R146, R163). The straps at 0 and the inputs
de-asserted are the model's choice (notes/assumptions/6.md), and so is the clock's origin. -/
def State.reset : State :=
  { now := 0
    inReset := none
    scanner :=
      { record := none, number := 0, lastV := none, lastI := none, vRun := 0, iRun := 0, senseFault := false,
        inFlight := some { power := .run, plan := Vector.replicate 24 true, start := 0 },
        timer := some (100 * Config.unitsPerMs) }
    est :=
      { st := .start, seedPending := true, window := [], averaged := 0, compensated := 0, q := 0, reserve := 0,
        unconfirmed := true, restTimer := 0, fullTimer := 0, fullLatched := false, curve := factoryProfile.curve,
        curveValid := true, battery := factoryProfile.battery }
    tiers :=
      { recs := Vector.ofFn fun i => { cfg := factoryProfile.tiers[i], st := .clear, streak := 0, conf := none }
        depth := 0 }
    chans := Vector.ofFn fun i => Chan.fresh factoryProfile.loads[i]
    seq :=
      { order := factoryProfile.order, st := .settle, lastStep := none, settleStart := none,
        cfg := factoryProfile.sequence }
    holds := []
    power :=
      { st := .run, lastExit := 0, shore := Pin.released, ign := Pin.released, install := Pin.released,
        cause := .powerOn, adr := 0, br := 0, cfg := factoryProfile.doze }
    link :=
      { rx := .wait, buffer := [], gapEnd := none, charFall := none, charNoise := false, spaceFall := none,
        falseEnd := none, quietStart := 0, quietHanded := false, reply := none, sending := none, counts := LinkCounts.zero }
    notices := { latch := 0x101, ackMark := 0, mask := 0, alertn := true }
    tally := Vector.ofFn fun i => { sel := factoryProfile.counters[i], value := 0 }
    store := { image := none, eraseCount := 0, saving := none, outcome := .none, source := .factory }
    pending := [] }

end Sys2Proof.Machine
end

