-- ==== Sys2Proof/Machine/Operands.lean ====
section
/-! DEFINITION. Operands: the fields of payloads, read and written; sets; clamps; and the arithmetic that the spec sets
out in words (00_scope.md, R150, R151). -/

namespace Sys2Proof.Machine

/-! ### Arithmetic in words -/

/-- A value clamped to a range. -/
def clampNat (lo hi n : Nat) : Nat := max lo (min hi n)

/-- An integer clamped to a range. -/
def clampInt (lo hi z : Int) : Int := max lo (min hi z)

/-- An integer clamped to 0 to `hi`, as a number. -/
def clampToNat (hi : Nat) (z : Int) : Nat := (clampInt 0 hi z).toNat

/-- The quotient of `z` by the positive `d`, rounded to nearest, ties away from zero. -/
def roundAway (z : Int) (d : Nat) : Int :=
  if z < 0 then -((2 * z.natAbs + d) / (2 * d) : Nat) else ((2 * z.natAbs + d) / (2 * d) : Nat)

/-- The quotient rounded up to a whole number. -/
def ceilDiv (n d : Nat) : Nat := (n + d - 1) / d

/-- What is left of `now` until `due` in whole `d`, rounded up; 0 when nothing runs. -/
def remaining (now d : Nat) : Option Nat → Nat
  | some due => ceilDiv (due - now) d
  | none => 0

/-- A moment has been reached: the timer runs and its end is not in the future. -/
def reached (now : Nat) : Option Nat → Bool
  | some due => decide (due ≤ now)
  | none => false

/-! ### Fields of a payload (R150) -/

/-- A field of one character. -/
def u8 (n : Nat) : List Byte := [BitVec.ofNat 8 n]

/-- A field of two characters, most significant first. -/
def u16 (n : Nat) : List Byte := [BitVec.ofNat 8 (n / 256), BitVec.ofNat 8 n]

/-- A field of three characters. -/
def u24 (n : Nat) : List Byte := BitVec.ofNat 8 (n / 65536) :: u16 n

/-- A field of four characters. -/
def u32 (n : Nat) : List Byte := BitVec.ofNat 8 (n / 16777216) :: u24 n

/-- A signed field of two characters, two's complement. -/
def s16 (z : Int) : List Byte := u16 (z % 65536).toNat

/-- The number that two characters form. -/
def be16 (hi lo : Nat) : Nat := 256 * hi + lo

/-- The number that three characters form. -/
def be24 (a b c : Nat) : Nat := 65536 * a + 256 * b + c

/-- A flag as the bit of weight `w`. -/
def bitIf (b : Bool) (w : Nat) : Nat := if b then w else 0

/-! ### Channel sets (R68, R150) -/

/-- Channel `k` is named by bit `k - 1` of a channel set. -/
def named (set : Nat) (i : Ch) : Bool := set.testBit i.val

/-- A channel set as the 24-bit number it forms. -/
def setNumber (p : Ch → Bool) : Nat := channels.foldl (fun n i => n + bitIf (p i) (2 ^ i.val)) 0

/-- A channel set of three characters. -/
def setField (p : Ch → Bool) : List Byte := u24 (setNumber p)

/-- The channel that a number of 1 to 24 names. -/
def channelOf (k : Nat) : Option Ch := if h : 1 ≤ k ∧ k ≤ 24 then some ⟨k - 1, by omega⟩ else none

/-- The number of a channel. -/
def channelNo (i : Ch) : Nat := i.val + 1

/-! ### The CRC (R151) -/

/-- The remainder after one more bit, most significant first, with the generator x^16 + x^12 + x^5 + 1. -/
def crcBit (rem : BitVec 16) (bit : Bool) : BitVec 16 :=
  let shifted := rem <<< 1
  if rem.getLsbD 15 != bit then shifted ^^^ 0x1021 else shifted

/-- The remainder after one more character, its most significant bit first. -/
def crcChar (rem : BitVec 16) (c : Byte) : BitVec 16 :=
  [7, 6, 5, 4, 3, 2, 1, 0].foldl (fun r k => crcBit r (c.getLsbD k)) rem

/-- The CRC over the characters in order, from 0xFFFF, with no inversion at the end. -/
def crc16 (cs : List Byte) : BitVec 16 := cs.foldl crcChar 0xFFFF

/-! ### Clamps of the settings, each by its owner's rule -/

/-- The BATTERY settings clamped to the ranges of R35. -/
def BatterySettings.clamp (b : BatterySettings) : BatterySettings :=
  { capacity := clampNat 5 1000 b.capacity
    resistance := clampNat 0 2000 b.resistance
    restCurrent := clampNat 0 1000 b.restCurrent
    restTime := clampNat 10 240 b.restTime
    fullVoltage := clampNat 8000 32000 b.fullVoltage
    tailCurrent := clampNat 0 5000 b.tailCurrent
    fullHold := clampNat 1 60 b.fullHold }

/-- A curve point clamped by R33. -/
def CurvePoint.clamp (p : CurvePoint) : CurvePoint :=
  { mv := clampNat 8000 32000 p.mv, reserve := clampNat 0 1000 p.reserve }

/-- The bottom of the range of a measure's levels (R46). -/
def Measure.bottom : Measure → Nat
  | .off => 0
  | .voltage => 8000
  | .reserve => 0

/-- The top of the range of a measure's levels (R46). -/
def Measure.top : Measure → Nat
  | .off => 32000
  | .voltage => 32000
  | .reserve => 1000

/-- The gap between the levels of a measure (R43); a tier whose measure is OFF has none (R46). -/
def Measure.gap : Measure → Nat
  | .off => 0
  | .voltage => 50
  | .reserve => 10

/-- The two levels after steps 2 and 3 of R46. -/
def clampLevels (m : Measure) (falling rising : Nat) : Nat × Nat :=
  let f := clampNat m.bottom m.top falling
  let r := clampNat m.bottom m.top rising
  match m with
  | .off => (f, r)
  | .voltage | .reserve =>
    if r < f + m.gap then
      if m.top < f + m.gap then (m.top - m.gap, m.top) else (f, f + m.gap)
    else (f, r)

/-- A tier or cutoff record clamped by R46: each count to 1 to 255, so that a count of 0 becomes 1, then the levels. -/
def TierSettings.clamp (t : TierSettings) : TierSettings :=
  let levels := clampLevels t.measure t.falling t.rising
  { t with
    falling := levels.1
    rising := levels.2
    confirm := clampNat 1 255 t.confirm
    release := clampNat 1 255 t.release }

/-- A load record clamped to the ranges of R65. -/
def LoadSettings.clamp (l : LoadSettings) : LoadSettings :=
  { l with
    shedTier := clampNat 1 4 l.shedTier
    limit := clampNat 0 4000 l.limit
    tripCount := clampNat 1 16 l.tripCount
    blanking := clampNat 0 20 l.blanking
    retryCount := clampNat 0 7 l.retryCount
    retryDelay := clampNat 1 60 l.retryDelay
    minOn := clampNat 0 3600 l.minOn
    minOff := clampNat 0 3600 l.minOff
    openLevel := clampNat 0 1000 l.openLevel }

/-- The SEQUENCE settings clamped to the ranges of R100. -/
def SequenceSettings.clamp (c : SequenceSettings) : SequenceSettings :=
  { shedSpacing := clampNat 5 300 c.shedSpacing
    restoreSpacing := clampNat 10 1200 c.restoreSpacing
    settleTime := clampNat 10 300 c.settleTime }

/-- The DOZE settings with a delay of 0 stored as 1 (R139). -/
def DozeSettings.clamp (d : DozeSettings) : DozeSettings := { d with delay := clampNat 1 255 d.delay }

/-- The highest qualifier of an event kind: 24 for a channel, 4 for a tier, 0 for none (R165). -/
def EventKind.topQualifier : EventKind → Nat
  | .shedAction | .restoreAction | .trip | .latch | .holdExpiry | .switchOn | .openLoad => 24
  | .tierEntry => 4
  | .none | .cutoffEntry | .fullResync | .restCorrection | .senseFaultEntry | .dozeEntry | .forceLapse => 0

/-- A selector whose qualifier is outside the range of its kind holds 0 (R166). -/
def Selector.clamp (s : Selector) : Selector :=
  { s with qualifier := if s.qualifier ≤ s.kind.topQualifier then s.qualifier else 0 }

/-! ### Codes of the settings and the states (R45, R66, R78, R158, R165) -/

/-- The code of a measure (R45). -/
def Measure.code : Measure → Nat
  | .off => 0
  | .voltage => 1
  | .reserve => 2

/-- The measure of a code. -/
def Measure.ofCode : Nat → Option Measure
  | 0 => some .off
  | 1 => some .voltage
  | 2 => some .reserve
  | _ => none

/-- The code of a class (R66). -/
def LoadClass.code : LoadClass → Nat
  | .sheddable => 0
  | .guarded => 1
  | .exempt => 2

/-- The class of a code. -/
def LoadClass.ofCode : Nat → Option LoadClass
  | 0 => some .sheddable
  | 1 => some .guarded
  | 2 => some .exempt
  | _ => none

/-- A flag character of 0 or 1. -/
def flagOf : Nat → Option Bool
  | 0 => some false
  | 1 => some true
  | _ => none

/-- The code of a force value (R129). -/
def Force.code : Force → Nat
  | .none => 0
  | .on => 1
  | .off => 2

/-- The force of a code. -/
def Force.ofCode : Nat → Option Force
  | 0 => some .none
  | 1 => some .on
  | 2 => some .off
  | _ => none

/-- The kind number of an event (R165). -/
def EventKind.code : EventKind → Nat
  | .none => 0
  | .shedAction => 1
  | .restoreAction => 2
  | .tierEntry => 3
  | .cutoffEntry => 4
  | .trip => 5
  | .latch => 6
  | .holdExpiry => 7
  | .switchOn => 8
  | .openLoad => 9
  | .fullResync => 10
  | .restCorrection => 11
  | .senseFaultEntry => 12
  | .dozeEntry => 13
  | .forceLapse => 14

/-- The event kind of a number; a number above 14 is stored as NONE (R166). -/
def EventKind.ofCode : Nat → EventKind
  | 1 => .shedAction
  | 2 => .restoreAction
  | 3 => .tierEntry
  | 4 => .cutoffEntry
  | 5 => .trip
  | 6 => .latch
  | 7 => .holdExpiry
  | 8 => .switchOn
  | 9 => .openLoad
  | 10 => .fullResync
  | 11 => .restCorrection
  | 12 => .senseFaultEntry
  | 13 => .dozeEntry
  | 14 => .forceLapse
  | _ => .none

/-- The code of a last-off cause (R78). -/
def OffCause.code : OffCause → Nat
  | .none => 0
  | .demand => 1
  | .shed n => n + 1
  | .cutoff => 6
  | .trip => 7
  | .forcedOff => 8
  | .reset => 9

/-- The code of a protection state (R160). -/
def Protection.code : Protection → Nat
  | .normal => 0
  | .tripWait => 1
  | .latched => 2

/-- The code of a record state (R158). -/
def TierState.code : TierState → Nat
  | .disabled => 0
  | .suppressed => 1
  | .clear => 2
  | .pending => 3
  | .active => 4
  | .releasing => 5

/-- The code of a sequencer state (R158). -/
def SeqState.code : SeqState → Nat
  | .settle => 0
  | .steady => 1
  | .shedding => 2
  | .restoring => 3
  | .heldBack => 4

/-- The code of an estimator state (R158). -/
def EstState.code : EstState → Nat
  | .start => 0
  | .tracking => 1
  | .frozen => 2

/-- The code of a save outcome (R158). -/
def SaveOutcome.code : SaveOutcome → Nat
  | .none => 0
  | .done => 1
  | .failed => 2

/-- The code of a reset cause (R159). -/
def ResetCause.code : ResetCause → Nat
  | .powerOn => 0
  | .supplyLow => 1
  | .pin => 2
  | .request => 3

/-- The code of a profile source (R159). -/
def ProfileSource.code : ProfileSource → Nat
  | .store => 0
  | .factory => 1

/-- The code of a status (R157). -/
def Status.code : Status → Nat
  | .ok => 0x00
  | .clamped => 0x01
  | .badKind => 0x10
  | .badLength => 0x11
  | .badChannel => 0x12
  | .badValue => 0x13
  | .denied => 0x20
  | .busy => 0x21
  | .holdFull => 0x22
  | .notApplicable => 0x23
  | .worn => 0x24

/-- CLAMPED when `b`, and OK otherwise. -/
def clampedIf (b : Bool) : Status := if b then .clamped else .ok

/-! ### The records of the sections, in the layouts of their writes (R172) -/

/-- The seven BATTERY settings (R35). -/
def BatterySettings.field (b : BatterySettings) : List Byte :=
  u16 b.capacity ++ u16 b.resistance ++ u16 b.restCurrent ++ u16 b.restTime ++ u16 b.fullVoltage ++ u16 b.tailCurrent
    ++ u16 b.fullHold

/-- A TIERS record in eight characters (R45). -/
def TierSettings.field (t : TierSettings) : List Byte :=
  u8 t.measure.code ++ u16 t.falling ++ u16 t.rising ++ u8 t.confirm ++ u8 t.release ++ u8 (bitIf t.suppress 1)

/-- A LOADS record in 16 characters (R66). -/
def LoadSettings.field (l : LoadSettings) : List Byte :=
  u8 (bitIf l.fitted 1) ++ u8 l.cls.code ++ u8 l.shedTier ++ u16 l.limit ++ u8 l.tripCount ++ u8 l.blanking
    ++ u8 l.retryCount ++ u8 l.retryDelay ++ u16 l.minOn ++ u16 l.minOff ++ u16 l.openLevel
    ++ u8 (bitIf l.startDemand 1)

/-- A CURVE point in four characters (R33). -/
def CurvePoint.field (p : CurvePoint) : List Byte := u16 p.mv ++ u16 p.reserve

/-- The three SEQUENCE settings (R100). -/
def SequenceSettings.field (c : SequenceSettings) : List Byte :=
  u16 c.shedSpacing ++ u16 c.restoreSpacing ++ u16 c.settleTime

/-- A notice set in two characters (R150). -/
def noticeField (n : BitVec 9) : List Byte := u16 n.toNat

/-- A COUNTERS entry in three characters (R166). -/
def Selector.field (s : Selector) : List Byte :=
  u8 s.kind.code ++ u8 s.qualifier ++ u8 (bitIf s.inhibit 1 + bitIf s.visible 2)

/-- The two DOZE settings (R139). -/
def DozeSettings.field (d : DozeSettings) : List Byte := u8 (bitIf d.auto 1) ++ u8 d.delay

/-- The characters of all nine sections in the order of their codes, over which with the format number the image's CRC
is formed (R170; the layout of the image is the model's choice, notes/assumptions/7.md). -/
def Profile.field (p : Profile) : List Byte :=
  p.battery.field ++ p.tiers.toList.flatMap TierSettings.field ++ p.loads.toList.flatMap LoadSettings.field
    ++ p.order.flatMap (fun i => u8 (channelNo i)) ++ p.curve.toList.flatMap CurvePoint.field ++ p.sequence.field
    ++ noticeField p.masks ++ p.counters.toList.flatMap Selector.field ++ p.doze.field

/-- The CRC of an image (R170). -/
def imageCrc (format : Nat) (p : Profile) : BitVec 16 := crc16 (u8 format ++ p.field)

end Sys2Proof.Machine
end

