-- ==== Sys2Proof/Machine/Flags.lean ====
section
/-! DEFINITION. Flags: the notice latches with ALERTN, the tally counters, and the flags that one block reads from the
state of another. -/

namespace Sys2Proof.Machine

/-! ### Tally Counters (R165) -/

/-- A counter counts an event of this kind and number: the kind matches, the qualifier is 0 or the number, and the
counter is not inhibited. An event of kind NONE does not exist. -/
def Selector.counts (s : Selector) (kind : EventKind) (number : Nat) : Bool :=
  decide (s.kind = kind) && decide (s.kind ≠ .none) && (decide (s.qualifier = 0) || decide (s.qualifier = number))
    && !s.inhibit

/-- The counter after the events of one kind with these numbers, each adding 1 up to the ceiling (R165). -/
def Counter.count (kind : EventKind) (numbers : List Nat) (c : Counter) : Counter :=
  { c with value := min Config.totalMax (c.value + (numbers.filter (c.sel.counts kind)).length) }

/-- The blocks report events of one kind, by number; 0 stands for an event that has no number. -/
def State.report (s : State) (kind : EventKind) (numbers : List Nat) : State :=
  { s with tally := Vector.ofFn fun k => s.tally[k].count kind numbers }

/-- One event of a kind that has no number, when it happens. -/
def State.reportIf (s : State) (kind : EventKind) (b : Bool) : State := s.report kind (if b then [0] else [])

/-- The numbers of the channels for which an event happens. -/
def channelNos (p : Ch → Bool) : List Nat := (channels.filter p).map channelNo

/-! ### Notice Unit (R161 to R164) -/

/-- The codes of the notices (R161). -/
inductive NoticeCode where
  | restart
  | tier
  | cutoff
  | trip
  | latch
  | holdEnd
  | sense
  | input
  | store
deriving DecidableEq, Repr

/-- The bit of a notice in a notice set (R150, R161). -/
def NoticeCode.bit : NoticeCode → BitVec 9
  | .restart => 0x001
  | .tier => 0x002
  | .cutoff => 0x004
  | .trip => 0x008
  | .latch => 0x010
  | .holdEnd => 0x020
  | .sense => 0x040
  | .input => 0x080
  | .store => 0x100

/-- ALERTN formed again: asserted exactly while a notice is latched whose mask is clear (R163). -/
def Notices.form (n : Notices) : Notices := { n with alertn := decide (n.latch &&& ~~~n.mask ≠ 0) }

/-- An event sets an edge latch, when it happens (R161). -/
def Notices.edge (n : Notices) (c : NoticeCode) (happens : Bool) : Notices :=
  if happens then { n with latch := n.latch ||| c.bit }.form else n

/-- The condition of a level notice was `before` and is `after` the event: its onset sets the latch; its end clears
latch and mark when the mark is set, and otherwise leaves the latch set (R162). -/
def Notices.level (n : Notices) (c : NoticeCode) (before after : Bool) : Notices :=
  if !before && after then { n with latch := n.latch ||| c.bit }.form
  else if before && !after && decide (n.ackMark &&& c.bit ≠ 0) then
    { n with latch := n.latch &&& ~~~c.bit, ackMark := n.ackMark &&& ~~~c.bit }.form
  else n

/-- An ACK of the set `names` while the level conditions in `present` hold: a named level latch whose condition holds
takes its mark, and every other named latch clears (R161, R162, R164). -/
def Notices.acknowledge (n : Notices) (names present : BitVec 9) : Notices :=
  { n with
    latch := n.latch &&& ~~~(names &&& ~~~present)
    ackMark := n.ackMark ||| (names &&& present &&& n.latch) }.form

/-- All nine masks are replaced at one moment (R163). -/
def Notices.setMask (n : Notices) (m : BitVec 9) : Notices := { n with mask := m }.form

/-! ### What one block reads of another -/

/-- A channel's index as it stands in the hold list (R121). -/
def State.held (s : State) (i : Ch) : Bool := s.holds.any fun e => decide (e.ch = i)

/-- Some channel's force is other than NONE (R128). -/
def State.anyForce (s : State) : Bool := channels.any fun i => decide (s.chans[i].force ≠ .none)

/-- Some tier or cutoff record is PENDING (R59). -/
def TierMonitor.anyPending (t : TierMonitor) : Bool := t.recs.toList.any fun r => decide (r.st = .pending)

/-- Some tier or cutoff record is RELEASING (R60). -/
def TierMonitor.anyReleasing (t : TierMonitor) : Bool := t.recs.toList.any fun r => decide (r.st = .releasing)

/-- A record calls for shedding: ACTIVE or RELEASING (R58). -/
def TierRecord.calls (r : TierRecord) : Bool := decide (r.st = .active) || decide (r.st = .releasing)

/-- The condition of the CUTOFF notice (R62). -/
def State.cutoffCondition (s : State) : Bool := s.tiers.recs[4].calls

/-- The condition of the LATCH notice: at least one channel is LATCHED (R84). -/
def State.latchCondition (s : State) : Bool := channels.any fun i => decide (s.chans[i].prot = .latched)

/-- The level conditions that hold, as a notice set (R161). -/
def State.conditions (s : State) : BitVec 9 :=
  (if s.cutoffCondition then NoticeCode.cutoff.bit else 0)
    ||| (if s.latchCondition then NoticeCode.latch.bit else 0)
    ||| (if s.scanner.senseFault then NoticeCode.sense.bit else 0)

/-- SHORE or IGN stands asserted after debounce (R51). -/
def State.sourcePresent (s : State) : Bool := s.power.shore.deb || s.power.ign.deb

/-- The unit address: the value of the ADR straps plus 1 (R145). -/
def Power.unitAddress (p : Power) : Nat := p.adr.toNat + 1

/-- The divisor of the crystal by the BR straps (R145). -/
def Power.divisor (p : Power) : Nat :=
  match p.br.toNat with
  | 0 => 24
  | 1 => 12
  | 2 => 6
  | _ => 4

/-- One bit time: 16 samples, each of `divisor` crystal periods of five clock units (R145, R147). -/
def Power.bitTime (p : Power) : Nat := 80 * p.divisor

/-- The fitted channels (R68). -/
def State.fitted (s : State) (i : Ch) : Bool := s.chans[i].cfg.fitted

/-- A save is in progress (R173). -/
def State.isSaving (s : State) : Bool := s.store.saving.isSome

/-- The time the link-quiet timer shows, in clock units (R153). -/
def State.quietFor (s : State) : Nat := s.now - s.link.quietStart

end Sys2Proof.Machine
end

