-- ==== Sys2Proof/Machine/Outputs.lean ====
section
/-! DEFINITION. Outputs: the output law and the changes of an output (R71 to R79). -/

namespace Sys2Proof.Machine

/-- The output law (R71). -/
def Chan.law (c : Chan) : Bool :=
  c.cfg.fitted && decide (c.prot = .normal) &&
    (decide (c.force = .on)
      || (decide (c.force = .none) && c.demand && c.mark.isNone && c.restLock.isNone))

/-- A timer or lock started with `span` clock units; a span of 0 passes at once (R72, R73). -/
def startTimer (now span : Nat) : Option Nat := if span = 0 then none else some (now + span)

/-- The output goes from off to on (R72). Its SWITCH_ON is reported by `derive`. -/
def Chan.turnOn (now : Nat) (c : Chan) : Chan :=
  { c with
    out := true
    runLock := startTimer now (c.cfg.minOn * Config.unitsPerSecond)
    blankEnd := startTimer now (c.cfg.blanking * (100 * Config.unitsPerMs))
    goodRun := some now
    overCount := 0
    openRun := 0
    onBefore := false }

/-- The output goes from on to off with a cause (R73). -/
def Chan.turnOff (now : Nat) (why : LastOff) (c : Chan) : Chan :=
  { c with
    out := false
    restLock := startTimer now (c.cfg.minOff * Config.unitsPerSecond)
    lastOff := why
    blankEnd := none
    goodRun := none
    overCount := 0
    openRun := 0
    openFlag := false
    onBefore := false }

/-- The cause of an output that the law turns off, other than by a trip (R78): the unfitting, a force OFF, the shed
mark, demand OFF, and otherwise FORCED_OFF for an output that its rest lock alone holds off after a force. -/
def Chan.offCause (c : Chan) : LastOff :=
  if !c.cfg.fitted then ⟨.demand, 0⟩
  else if c.force = .off then ⟨.forcedOff, 0⟩
  else match c.mark with
    | some m => ⟨m.cause, m.detail⟩
    | none => if !c.demand then ⟨.demand, 0⟩ else ⟨.forcedOff, 0⟩

/-- One change of a channel's output, when the law calls for one; no change starts no lock and records nothing (R71). -/
def Chan.deriveOnce (now : Nat) (c : Chan) : Chan :=
  if c.law = c.out then c
  else if c.law then c.turnOn now
  else c.turnOff now c.offCause

/-- One channel's output derived from its own state (R71). An output that its rest lock alone turns off, after a force, with
a min-off of 0, finds the restarted lock passed at once and comes on again (R73, R74; notes/assumptions/10.md). -/
def Chan.derive (now : Nat) (c : Chan) : Chan := (c.deriveOnce now).deriveOnce now

/-- The derivation brings the channel's output on, from off (R72). -/
def Chan.comesOn (now : Nat) (c : Chan) : Bool := (c.derive now).out && !(c.out && c.law)

/-- Every output is derived, and one SWITCH_ON is reported for each that comes on (R71, R72). -/
def State.derive (s : State) : State :=
  { s with chans := Vector.ofFn fun i => s.chans[i].derive s.now }.report .switchOn
    (channelNos fun i => s.chans[i].comesOn s.now)

/-- Every output stands as the law says, so that a derivation changes none (R71). -/
def State.lawful (s : State) : Bool := channels.all fun i => s.chans[i].law == s.chans[i].out

/-- The holding causes of a channel as the character of its load record: bit r − 1 for the cause of rank r, and none
while the output is on (R79, R160). -/
def Chan.holdingCauses (c : Chan) : Nat :=
  if c.out then 0
  else
    bitIf (decide (c.prot = .latched)) 1 + bitIf (decide (c.prot = .tripWait)) 2 + bitIf (decide (c.force = .off)) 4
      + bitIf (c.mark.isSome && decide (c.force ≠ .on)) 8 + bitIf (c.restLock.isSome && decide (c.force ≠ .on)) 16
      + bitIf (!c.demand && decide (c.force ≠ .on)) 32

/-- One channel of the state changes. -/
def State.setChan (s : State) (i : Ch) (c : Chan) : State := { s with chans := s.chans.set i c }

/-- Every channel changes by a rule of its own. -/
def State.mapChans (s : State) (f : Ch → Chan → Chan) : State :=
  { s with chans := Vector.ofFn fun i => f i s.chans[i] }

end Sys2Proof.Machine
end

