-- ==== Sys2Proof/Machine/Sequencing.lean ====
section
/-! DEFINITION. Sequencing: the must-shed set, the marks, the steps and the reconsideration (R96 to R119). -/

namespace Sys2Proof.Machine

/-! ### The sets (R96, R98) -/

/-- A channel is in the must-shed set (R96). -/
def State.mustShed (s : State) (i : Ch) : Bool :=
  let c := s.chans[i]
  let d := s.tiers.depth
  c.cfg.fitted && c.demand && decide (c.force = .none) &&
    match c.cfg.cls with
    | .sheddable =>
      decide (d = 5) || (!s.held i && decide (1 ≤ d) && decide (d ≤ 4) && decide (c.cfg.shedTier ≤ d))
    | .guarded => decide (d = 5)
    | .exempt => false

/-- A shed candidate: in the must-shed set and not marked (R98). -/
def State.shedCandidate (s : State) (i : Ch) : Bool := s.mustShed i && s.chans[i].mark.isNone

/-- A restore candidate: marked, fitted, with demand ON and force NONE, and not in the must-shed set (R98). -/
def State.restoreCandidate (s : State) (i : Ch) : Bool :=
  let c := s.chans[i]
  c.mark.isSome && c.cfg.fitted && c.demand && decide (c.force = .none) && !s.mustShed i

/-! ### Marks (R97) -/

/-- The confirming value of the record that gives the depth; it is present whenever it is read (R50). -/
def State.confirming (s : State) : Nat :=
  match s.tiers.depth with
  | 1 => s.tiers.recs[0].conf.getD 0
  | 2 => s.tiers.recs[1].conf.getD 0
  | 3 => s.tiers.recs[2].conf.getD 0
  | 4 => s.tiers.recs[3].conf.getD 0
  | 5 => s.tiers.recs[4].conf.getD 0
  | _ => 0

/-- The mark of a step, a mass shed or a shed on arrival at the present depth (R97). -/
def State.shedMark (s : State) : Mark :=
  if s.tiers.depth = 5 then ⟨.cutoff, s.confirming⟩ else ⟨.shed s.tiers.depth, s.confirming⟩

/-- The mark of a channel that arrives, by R110 in the must-shed set and by R114 in SETTLE; absent when it is not to be
marked. -/
def State.arrivalMark (s : State) (i : Ch) : Option Mark :=
  let c := s.chans[i]
  if c.mark.isSome then none
  else if s.mustShed i then some s.shedMark
  else if decide (s.seq.st = .settle) && c.cfg.fitted && c.demand && decide (c.force = .none)
      && decide (c.cfg.cls ≠ .exempt) then some ⟨.reset, 0⟩
  else none

/-- Each channel with a mark to come is marked, and one SHED_ACTION is reported for it (R97). -/
def State.markEach (s : State) (f : Ch → Option Mark) : State :=
  (s.mapChans fun i c => match f i with
    | some m => { c with mark := some m }
    | none => c).report .shedAction (channelNos fun i => (f i).isSome)

/-- The mass shed: at depth 5 every shed candidate is marked at once, and the last step time is set once when there is
one (R108, R109). -/
def State.massShed (s : State) : State :=
  if s.tiers.depth = 5 ∧ channels.any s.shedCandidate then
    let t := s.markEach fun i => if s.shedCandidate i then some s.shedMark else none
    { t with seq := { t.seq with lastStep := some s.now } }
  else s

/-- The marking in SETTLE of every channel that the Sequencer may shed (R114). -/
def State.markSettle (s : State) : State :=
  if s.seq.st = .settle then s.markEach s.arrivalMark else s

/-! ### Spacings and SETTLE (R101, R113) -/

/-- At least `steps` times 100 ms have passed since the last step time, or it is absent (R101). -/
def State.spacingPassed (s : State) (steps : Nat) : Bool :=
  match s.seq.lastStep with
  | none => true
  | some t => decide (t + steps * (100 * Config.unitsPerMs) ≤ s.now)

/-- The settle time has passed since the settle start (R113). -/
def State.settlePassed (s : State) : Bool :=
  match s.seq.settleStart with
  | none => false
  | some t => decide (t + s.seq.cfg.settleTime * (100 * Config.unitsPerMs) ≤ s.now)

/-- SETTLE has not ended, or does not end at this reconsideration (R113). -/
def State.settling (s : State) : Bool :=
  decide (s.seq.st = .settle) && !(s.settlePassed && !s.tiers.anyPending)

/-! ### Steps (R102, R105) -/

/-- The channel a shed step takes: of the shed candidates whose run lock has passed, the lowest in the list (R102). -/
def State.shedChoice (s : State) : Option Ch :=
  if 1 ≤ s.tiers.depth ∧ s.tiers.depth ≤ 4 ∧ s.spacingPassed s.seq.cfg.shedSpacing then
    s.seq.order.reverse.find? fun i => s.shedCandidate i && s.chans[i].runLock.isNone
  else none

/-- The channel a restore step takes, when nothing holds restores back: of the restore candidates whose rest lock has
passed, the highest in the list (R105). -/
def State.restoreChoice (s : State) : Option Ch :=
  if !channels.any s.shedCandidate && !s.tiers.anyPending && !s.scanner.senseFault && !s.settling
      && s.spacingPassed s.seq.cfg.restoreSpacing then
    s.seq.order.find? fun i => s.restoreCandidate i && s.chans[i].restLock.isNone
  else none

/-- A shed step marks one channel, sets the last step time and reports one SHED_ACTION (R102). -/
def State.shedStep (s : State) (i : Ch) : State :=
  let t := s.markEach fun j => if j = i then some s.shedMark else none
  { t with seq := { t.seq with lastStep := some s.now } }

/-- A restore step clears one mark, sets the last step time and reports one RESTORE_ACTION (R105). -/
def State.restoreStep (s : State) (i : Ch) : State :=
  let t := (s.setChan i { s.chans[i] with mark := none }).report .restoreAction [channelNo i]
  { t with seq := { t.seq with lastStep := some s.now } }

/-- At most one step: a shed step if one is due, and otherwise a restore step if one is due (R117). -/
def State.takeStep (s : State) : State :=
  match s.shedChoice with
  | some i => s.shedStep i
  | none =>
    match s.restoreChoice with
    | some i => s.restoreStep i
    | none => s

/-! ### The sequencer state and the reconsideration (R115, R117) -/

/-- The sequencer state by the first line of the table that applies, where `settling` says that SETTLE has not
ended (R115). -/
def State.seqState (s : State) (settling : Bool) : SeqState :=
  if settling then .settle
  else if channels.any s.shedCandidate then .shedding
  else if !channels.any s.restoreCandidate then .steady
  else if s.tiers.anyPending || s.scanner.senseFault
      || !channels.any (fun i => s.restoreCandidate i && s.chans[i].restLock.isNone) then .heldBack
  else .restoring

/-- The reconsideration: the markings due, the end of SETTLE, at most one step, and the sequencer state (R117). -/
def State.reconsider (s : State) : State :=
  let marked := s.massShed.markSettle
  let stepped := marked.takeStep
  { stepped with seq := { stepped.seq with st := stepped.seqState marked.settling } }

/-- The outputs are derived while one of them stands against the law; the start of a lock at each change brings a
reconsideration, which may change a mark and so another output. A reconsideration takes a step only when its spacing has
passed since the step before it, so a few rounds end it, and `rounds` bounds them (R71, R74, R117;
notes/assumptions/8.md). -/
def State.settleOutputs : Nat → State → State
  | 0, s => s.derive
  | rounds + 1, s => if s.lawful then s else s.derive.reconsider.settleOutputs rounds

/-- The rounds that `settleOutputs` may take. -/
def outputRounds : Nat := 6

/-- An input of the Sequencer has changed: it reconsiders, and then the outputs are derived (R76, R117, R128). -/
def State.resolve (s : State) : State := s.reconsider.settleOutputs outputRounds

/-- An input of the output law alone has changed: the outputs are derived, and the Sequencer reconsiders only when one
of them has changed (R71, R82). -/
def State.resolveOutputs (s : State) : State := s.settleOutputs outputRounds

end Sys2Proof.Machine
end

