-- ==== Sys2Proof/Machine/Estimation.lean ====
section
/-! DEFINITION. Estimation: the scan record's formation (R7 to R14) and the Charge Estimator's work (R17 to R37). -/

namespace Sys2Proof.Machine

/-! ### The scanner's part of a completion (R7 to R14) -/

/-- The reading at VBS, from 0 to 32,767 mV; 32,767 mV is invalid (R7). The rule names no reading of an input below zero, which
is a free value (notes/assumptions/15.md). -/
def readVoltage (z : Int) : Nat := if z < 0 then (Config.vbsBelowZero z).toNat else clampToNat 32767 z

/-- The reading of the shunt; either end of the range is invalid (R8). -/
def readCurrent (z : Int) : Int := clampInt (-32768) 32767 z

/-- The reading of a current sense (R9). -/
def readChannel (z : Int) : Nat := clampToNat 4095 z

/-- An invalid-run count after a sample (R10). -/
def runCount (valid : Bool) (n : Nat) : Nat := if valid then 0 else min 255 (n + 1)

/-- The standing of a quantity from its sample, its count after the update and its last valid value (R11). -/
def standing (valid hasLast : Bool) (run : Nat) : Standing :=
  if valid then .valid else if hasLast && decide (run ≤ 4) then .held else .lost

/-- The scanner and its record after the completion of the scan `f` with these samples; no scan is then in flight
(R14). The battery quantities are given by R11, and a channel left out of the plan is recorded as 0 (R2). -/
def Scanner.complete (sc : Scanner) (f : Scan) (smp : Samples) : Scanner × ScanRecord :=
  let v := readVoltage smp.vbs
  let i := readCurrent smp.shunt
  let vOk := decide (v ≠ 32767)
  let iOk := decide (i ≠ -32768) && decide (i ≠ 32767)
  let vRun := runCount vOk sc.vRun
  let iRun := runCount iOk sc.iRun
  let lastV := if vOk then some v else sc.lastV
  let lastI := if iOk then some i else sc.lastI
  let fault := if sc.senseFault then !(vOk && iOk) else decide (vRun = 5) || decide (iRun = 5)
  let number := if sc.number = 65535 then 1 else sc.number + 1
  let rcd : ScanRecord :=
    { number := number
      power := f.power
      voltage := lastV.getD 0
      vStanding := standing vOk sc.lastV.isSome vRun
      current := lastI.getD 0
      iStanding := standing iOk sc.lastI.isSome iRun
      senseFault := fault
      currents := Vector.ofFn fun k => if f.plan[k] then readChannel smp.cs[k] else 0 }
  ({ sc with
      record := some rcd, number := number, lastV := lastV, lastI := lastI, vRun := vRun, iRun := iRun,
      senseFault := fault, inFlight := none }, rcd)

/-- The period in milliseconds that a record stands for (R3, R4). -/
def PowerState.periodMs : PowerState → Nat
  | .run => 100
  | .doze => 1000

/-- The factor of charge and usage of a record (R26, R88). -/
def PowerState.factor : PowerState → Nat
  | .run => 1
  | .doze => 10

/-! ### The Charge Estimator -/

/-- The class of a completed record (R17). -/
inductive RecordClass where
  | faulted
  | sound
  | blind
deriving DecidableEq, Repr

/-- The class of a record by its sense fault and its standings (R17). -/
def ScanRecord.cls (r : ScanRecord) : RecordClass :=
  if r.senseFault then .faulted
  else if r.vStanding = .lost ∨ r.iStanding = .lost then .blind
  else .sound

/-- The full charge in mA·s (R25). -/
def BatterySettings.full (b : BatterySettings) : Nat := b.capacity * 3600000

/-- The reserve formed from a charge (R25). -/
def reserveOf (full q : Nat) : Nat := q * 1000 / full

/-- The curve is VALID: voltages rise strictly and reserves do not fall (R32). -/
def curveIsValid (curve : Vector CurvePoint 16) : Bool :=
  (List.finRange 15).all fun i =>
    decide (curve[i.val].mv < curve[i.val + 1].mv) && decide (curve[i.val].reserve ≤ curve[i.val + 1].reserve)

/-- The reserve on the segment from `p` to `p'` at `v` (R34). -/
def segmentReserve (p p' : CurvePoint) (v : Nat) : Nat :=
  p.reserve + (v - p.mv) * (p'.reserve - p.reserve) / (p'.mv - p.mv)

/-- The curve's lookup at a voltage, made only while the curve is VALID (R34). -/
def curveReserve (curve : Vector CurvePoint 16) (v : Nat) : Nat :=
  if v < curve[0].mv then curve[0].reserve
  else if curve[15].mv ≤ v then curve[15].reserve
  else
    match (List.finRange 15).find? fun i => decide (curve[i.val].mv ≤ v) && decide (v < curve[i.val + 1].mv) with
    | some i => segmentReserve curve[i.val] curve[i.val + 1] v
    | none => curve[15].reserve

/-- The curve's Q at a voltage (R34). -/
def Estimator.curveQ (e : Estimator) (v : Nat) : Nat := curveReserve e.curve v * e.battery.full / 1000

/-- The current window after a sample has joined it at its newest end, the last of the list (R22). -/
def joinWindow (w : List Int) (i : Int) : List Int := w.drop (w.length - 7) ++ [i]

/-- The mean of the window, truncated toward zero (R23). -/
def averageOf (w : List Int) : Int := w.sum.tdiv w.length

/-- The compensated voltage (R24). -/
def compensate (voltage : Nat) (averaged : Int) (resistance : Nat) : Nat :=
  clampToNat 32767 (voltage + roundAway (averaged * resistance) 1000)

/-- Q after the integration of one record (R26). -/
def integrate (full q : Nat) (current : Int) (k : Nat) : Nat := clampToNat full (q - current * k)

/-- What one record does to the Estimator: its state, whether it yields an estimate update, whether that is the first
estimate, and the events it reports. -/
structure EstOutcome where
  est : Estimator
  update : Bool
  first : Bool
  restEvent : Bool
  fullEvent : Bool
deriving DecidableEq, Repr

/-- Steps 1 to 3 of R27: the window, the averaged current and the compensated voltage. -/
def Estimator.sample (e : Estimator) (r : ScanRecord) : Estimator :=
  let w := joinWindow e.window r.current
  let avg := averageOf w
  { e with window := w, averaged := avg, compensated := compensate r.voltage avg e.battery.resistance }

/-- Step 4 of R27 at a tracking scan: Q is integrated (R26). -/
def Estimator.charge (e : Estimator) (r : ScanRecord) : Estimator :=
  { e with q := integrate e.battery.full e.q r.current r.power.factor }

/-- Step 4 at the first estimate: a pending seed sets Q, and otherwise Q is kept (R19). -/
def Estimator.seed (e : Estimator) : Estimator :=
  if e.seedPending then
    { e with
      q := if e.curveValid then e.curveQ e.compensated else e.battery.full / 2
      unconfirmed := true
      seedPending := false }
  else e

/-- The averaged current lies within the rest current (R28). -/
def Estimator.atRest (e : Estimator) : Bool := decide (e.averaged.natAbs ≤ e.battery.restCurrent)

/-- Step 5 of R27: the rest timer, and the rest correction when it is due (R28, R29); the flag says that a
REST_CORRECTION is reported. -/
def Estimator.rest (e : Estimator) (periodMs : Nat) : Estimator × Bool :=
  if e.atRest then
    let t := e.restTimer + periodMs
    if e.battery.restTime * 60000 ≤ t then
      if e.curveValid then
        ({ e with q := e.curveQ e.compensated, unconfirmed := false, restTimer := 0 }, true)
      else ({ e with restTimer := 0 }, false)
    else ({ e with restTimer := t }, false)
  else ({ e with restTimer := 0 }, false)

/-- The full condition (R30). -/
def Estimator.fullCondition (e : Estimator) : Bool :=
  decide (e.battery.fullVoltage ≤ e.compensated) && decide (e.averaged < 0)
    && decide (e.averaged.natAbs ≤ e.battery.tailCurrent)

/-- Step 6 of R27: the full timer, and the full resynchronisation when it is due (R30, R31); the flag says that a
FULL_RESYNC is reported. -/
def Estimator.fill (e : Estimator) (periodMs : Nat) : Estimator × Bool :=
  let limit := e.battery.fullHold * 60000
  if e.fullCondition then
    let t := if e.fullTimer < limit then e.fullTimer + periodMs else e.fullTimer
    if limit ≤ t ∧ !e.fullLatched then
      ({ e with q := e.battery.full, unconfirmed := false, fullTimer := t, fullLatched := true }, true)
    else ({ e with fullTimer := t }, false)
  else ({ e with fullTimer := 0, fullLatched := false }, false)

/-- The reserve formed again from Q (R25). -/
def Estimator.reform (e : Estimator) : Estimator := { e with reserve := reserveOf e.battery.full e.q }

/-- The work of one tracking scan, or of the first estimate, in the order of R27 (R19, R27). -/
def Estimator.take (e : Estimator) (r : ScanRecord) (first : Bool) : EstOutcome :=
  let e1 := e.sample r
  let e2 := if first then e1.seed else e1.charge r
  let (e3, restEvent) := e2.rest r.power.periodMs
  let (e4, fullEvent) := e3.fill r.power.periodMs
  { est := { e4.reform with st := .tracking }
    update := true, first := first, restEvent := restEvent, fullEvent := fullEvent }

/-- A record that yields no estimate update (R18). -/
def Estimator.ignore (e : Estimator) : EstOutcome :=
  { est := e, update := false, first := false, restEvent := false, fullEvent := false }

/-- A scan completion at the Estimator, by its state and the record's class (R17). A blind record does not reach
TRACKING or FROZEN; there it is taken as one that yields nothing. -/
def Estimator.complete (e : Estimator) (r : ScanRecord) : EstOutcome :=
  match e.st, r.cls with
  | .start, .faulted => e.ignore
  | .start, .sound => e.take r true
  | .start, .blind => e.ignore
  | .tracking, .faulted => { e with st := .frozen }.ignore
  | .tracking, .sound => e.take r false
  | .tracking, .blind => e.ignore
  | .frozen, .faulted => e.ignore
  | .frozen, .sound => e.take r false
  | .frozen, .blind => e.ignore

/-- New battery settings: a capacity change rescales Q, and the reserve is formed again (R36, R37). -/
def Estimator.setBattery (e : Estimator) (b : BatterySettings) : Estimator :=
  if b.capacity = e.battery.capacity then { e with battery := b }
  else { e with battery := b, q := e.q * b.full / e.battery.full }.reform

/-- A new curve, with its validity formed again (R32). -/
def Estimator.setCurve (e : Estimator) (c : Vector CurvePoint 16) : Estimator :=
  { e with curve := c, curveValid := curveIsValid c }

/-- Q set from outside: the reserve is formed again and the unconfirmed flag cleared (R38). -/
def Estimator.setCharge (e : Estimator) (q : Nat) : Estimator := { e with q := q, unconfirmed := false }.reform

end Sys2Proof.Machine
end

