-- ==== Sys2Proof/Machine/Tiering.lean ====
section
/-! DEFINITION. Tiering: the evaluation of the tier and cutoff records, suppression, setting changes and the depth
(R43 to R64). -/

namespace Sys2Proof.Machine

/-- What a record's evaluation reports to the neighbours (R49). -/
structure Move where
  pending : Bool
  active : Bool
  released : Bool
deriving DecidableEq, Repr

/-- No move that is reported. -/
def Move.quiet : Move := { pending := false, active := false, released := false }

/-- The entry to ACTIVE: streak 0, and the confirming value is the x of the evaluation (R48, R50). -/
def TierRecord.enter (r : TierRecord) (x : Nat) : TierRecord := { r with st := .active, streak := 0, conf := some x }

/-- The record in another state with a streak count. -/
def TierRecord.go (r : TierRecord) (st : TierState) (streak : Nat) : TierRecord := { r with st := st, streak := streak }

/-- The evaluation table (R48), with the cutoff's bypass of its confirm count at a DOZE update (R57). -/
def TierRecord.evaluate (r : TierRecord) (x : Nat) (bypass : Bool) : TierRecord × Move :=
  match r.st with
  | .disabled | .suppressed => (r, Move.quiet)
  | .clear =>
    if x ≤ r.cfg.falling then
      if bypass ∨ r.cfg.confirm ≤ 1 then (r.enter x, { Move.quiet with pending := true, active := true })
      else (r.go .pending 1, { Move.quiet with pending := true })
    else (r, Move.quiet)
  | .pending =>
    if x ≤ r.cfg.falling then
      if bypass ∨ r.cfg.confirm ≤ r.streak + 1 then (r.enter x, { Move.quiet with active := true })
      else (r.go .pending (r.streak + 1), Move.quiet)
    else (r.go .clear 0, Move.quiet)
  | .active =>
    if r.cfg.rising < x then
      if r.cfg.release ≤ 1 then (r.go .clear 0, { Move.quiet with released := true })
      else (r.go .releasing 1, Move.quiet)
    else (r, Move.quiet)
  | .releasing =>
    if r.cfg.rising < x then
      if r.cfg.release ≤ r.streak + 1 then (r.go .clear 0, { Move.quiet with released := true })
      else (r.go .releasing (r.streak + 1), Move.quiet)
    else (r.go .active 0, Move.quiet)

/-- The x of a record at an estimate update (R43, R44). -/
def TierRecord.measured (r : TierRecord) (compensated reserve : Nat) : Nat :=
  match r.cfg.measure with
  | .off => 0
  | .voltage => compensated
  | .reserve => reserve

/-- The depth of five records (R58). -/
def depthOf (recs : Vector TierRecord 5) : Nat :=
  if recs[4].calls then 5
  else if recs[3].calls then 4
  else if recs[2].calls then 3
  else if recs[1].calls then 2
  else if recs[0].calls then 1
  else 0

/-- The depth is formed again from the records (R58). -/
def TierMonitor.form (t : TierMonitor) : TierMonitor := { t with depth := depthOf t.recs }

/-- Every record evaluated on one estimate update, and then the depth (R47). -/
def TierMonitor.evaluate (t : TierMonitor) (compensated reserve : Nat) (dozeRecord : Bool) :
    TierMonitor × Vector Move 5 :=
  let moved : Vector (TierRecord × Move) 5 := Vector.ofFn fun k =>
    t.recs[k].evaluate (t.recs[k].measured compensated reserve) (dozeRecord && decide (k = 4))
  ({ t with recs := Vector.ofFn fun k => moved[k].1 }.form, Vector.ofFn fun k => moved[k].2)

/-- A tier's suppression begins or ends with its conditions: the measure not OFF, the suppress flag set, and SHORE or
IGN asserted (R51, R52). -/
def TierRecord.suppression (r : TierRecord) (source : Bool) : TierRecord :=
  if r.cfg.measure = .off then r
  else if r.cfg.suppress && source then
    if r.st = .suppressed then r else r.go .suppressed 0
  else if r.st = .suppressed then r.go .clear 0
  else r

/-- A change of SHORE or IGN reaches every record, and the depth is formed again (R51, R52, R58). -/
def TierMonitor.suppression (t : TierMonitor) (source : Bool) : TierMonitor :=
  { t with recs := Vector.ofFn fun k => t.recs[k].suppression source }.form

/-- A record takes new settings: a change of measure starts it afresh (R54), and otherwise it keeps its state and count
but for its suppression (R53, R55). -/
def TierRecord.write (r : TierRecord) (cfg : TierSettings) (source : Bool) : TierRecord :=
  if cfg.measure = r.cfg.measure then { r with cfg := cfg }.suppression source
  else
    { cfg := cfg
      st := if cfg.measure = .off then .disabled else if cfg.suppress && source then .suppressed else .clear
      streak := 0
      conf := none }

/-- One record is written, and the depth is formed again (R54, R58). -/
def TierMonitor.write (t : TierMonitor) (k : Fin 5) (cfg : TierSettings) (source : Bool) : TierMonitor :=
  { t with recs := t.recs.set k (t.recs[k].write cfg source) }.form

/-- Every record is written, as LOAD_DEFAULTS does (R56). -/
def TierMonitor.writeAll (t : TierMonitor) (cfgs : Vector TierSettings 5) (source : Bool) : TierMonitor :=
  { t with recs := Vector.ofFn fun k => t.recs[k].write cfgs[k] source }.form

/-- A record at the end of a reset (R64). -/
def TierRecord.fresh (cfg : TierSettings) (source : Bool) : TierRecord :=
  TierRecord.suppression
    { cfg := cfg, st := if cfg.measure = .off then .disabled else .clear, streak := 0, conf := none } source

/-- The Tier Monitor at the end of a reset (R64). -/
def TierMonitor.fresh (cfgs : Vector TierSettings 5) (source : Bool) : TierMonitor :=
  TierMonitor.form { recs := Vector.ofFn fun k => TierRecord.fresh cfgs[k] source, depth := 0 }

/-- What the Tier Monitor hands to the Shed Sequencer has changed: the depth, or whether a record is PENDING (R59). -/
def TierMonitor.handsOver (before after : TierMonitor) : Bool :=
  decide (before.depth ≠ after.depth) || (before.anyPending != after.anyPending)

end Sys2Proof.Machine
end

