-- ==== Sys2Proof/Machine/Judging.lean ====
section
/-! DEFINITION. Judging: the Channel Controller at a scan completion (R80 to R88), and changes of a channel's settings
(R66 to R70). -/

namespace Sys2Proof.Machine

/-- What a scan completion does to one channel, with the events it reports. -/
structure Treated where
  chan : Chan
  tripped : Bool
  latched : Bool
  opened : Bool
  /-- A judged scan found the current above the limit (R86). -/
  above : Bool
deriving DecidableEq, Repr

/-- The output has been on since before the scan began (R80, R88). -/
def Chan.onThroughout (c : Chan) : Bool := c.out && c.onBefore

/-- The blanking has passed at a completion at or after its end (R75). -/
def Chan.blankingPassed (now : Nat) (c : Chan) : Bool := c.blankEnd.isNone || reached now c.blankEnd

/-- Usage: the current times the factor, up to the ceiling (R88). -/
def Chan.use (current factor : Nat) (c : Chan) : Chan :=
  if c.onThroughout then { c with usage := min Config.totalMax (c.usage + current * factor) } else c

/-- The channel is judged for overcurrent at this completion (R80). -/
def Chan.judged (now : Nat) (c : Chan) : Bool :=
  decide (c.prot = .normal) && c.onThroughout && c.blankingPassed now && decide (c.cfg.limit ≠ 0)

/-- The delay of the next retry in seconds (R81). -/
def Chan.retrySeconds (c : Chan) : Nat := min Config.retryCapSeconds (c.cfg.retryDelay * 2 ^ c.retries)

/-- A trip: TRIP_WAIT while retries are left and LATCHED otherwise, and the output goes off with cause TRIP (R81). -/
def Chan.trip (now current : Nat) (c : Chan) : Chan :=
  let off := c.turnOff now ⟨.trip, current⟩
  if c.retries < c.cfg.retryCount then
    { off with
      prot := .tripWait
      retryEnd := some (now + c.retrySeconds * Config.unitsPerSecond)
      retries := c.retries + 1 }
  else { off with prot := .latched }

/-- The over-count after this completion (R80); a limit of 0 sets it to 0 (R67). -/
def Chan.overCountAfter (now current : Nat) (c : Chan) : Nat :=
  if c.cfg.limit = 0 then 0
  else if c.judged now then (if c.cfg.limit < current then c.overCount + 1 else 0)
  else c.overCount

/-- Overcurrent: the over-count, and the trip it brings (R80, R81). -/
def Chan.protect (now current : Nat) (c : Chan) : Treated :=
  let above := c.judged now && decide (c.cfg.limit < current)
  let n := c.overCountAfter now current
  if above ∧ c.cfg.tripCount ≤ n then
    let t := c.trip now current
    { chan := t, tripped := true, latched := decide (t.prot = .latched), opened := false, above := true }
  else { chan := { c with overCount := n }, tripped := false, latched := false, opened := false, above := above }

/-- Open load: the run count and the flag of a channel whose output is on (R87); the flag says that an OPEN_LOAD is
reported. -/
def Chan.checkOpen (now current : Nat) (c : Chan) : Chan × Bool :=
  if !c.out then (c, false)
  else if !c.demand || decide (c.cfg.openLevel = 0) then ({ c with openRun := 0, openFlag := false }, false)
  else if c.onThroughout && c.blankingPassed now then
    if current < c.cfg.openLevel then
      let reaches := decide (c.openRun = 9)
      ({ c with openRun := min 10 (c.openRun + 1), openFlag := c.openFlag || reaches }, reaches)
    else ({ c with openRun := 0, openFlag := false }, false)
  else (c, false)

/-- One channel at a scan completion: usage, then overcurrent, then open load (R80). -/
def Chan.treat (now current factor : Nat) (c : Chan) : Treated :=
  let p := (c.use current factor).protect now current
  let (c', opened) := p.chan.checkOpen now current
  { p with chan := c', opened := opened }

/-! ### Changes of a channel's settings -/

/-- A change to NORMAL with the retry timer stopped (R84, R85). -/
def Chan.toNormal (c : Chan) : Chan := { c with prot := .normal, retryEnd := none }

/-- The Channel Controller's, the Sequencer's and the force table's part of an unfitting (R69). -/
def Chan.unfit (c : Chan) : Chan :=
  { c.toNormal with demand := false, mark := none, force := .none, retries := 0, overCount := 0 }

/-- A channel made fitted (R70). -/
def Chan.fit (c : Chan) : Chan :=
  { c.toNormal with demand := false, retries := 0, openRun := 0, openFlag := false }

/-- A channel takes new load settings; a change of the fitted flag or to class EXEMPT acts on its state, and every
other change acts later (R67, R69, R70, R99). -/
def Chan.write (c : Chan) (cfg : LoadSettings) : Chan :=
  let c1 := { c with cfg := cfg }
  let c2 := if c.cfg.fitted && !cfg.fitted then c1.unfit else if !c.cfg.fitted && cfg.fitted then c1.fit else c1
  if c.cfg.cls ≠ .exempt ∧ cfg.cls = .exempt then { c2 with mark := none } else c2

/-- New settings remove a channel's hold entry: the channel is made not fitted, or its class leaves SHEDDABLE
(R69, R126). -/
def LoadSettings.dropsHold (old new : LoadSettings) : Bool :=
  (old.fitted && !new.fitted) || (decide (old.cls = .sheddable) && decide (new.cls ≠ .sheddable))

/-- New settings change an input of the Sequencer or of the output law (R67, R117). -/
def LoadSettings.actsOnShedding (old new : LoadSettings) : Bool :=
  (old.fitted != new.fitted) || decide (old.cls ≠ new.cls) || decide (old.shedTier ≠ new.shedTier)

/-- The INSTALLER fields of a load record are touched: one of them differs from the value held (R65, R66). -/
def LoadSettings.touchesInstaller (old new : LoadSettings) : Bool :=
  decide ({ new with startDemand := old.startDemand } ≠ old)

/-- The hold list without the entries of some channels (R125, R126). -/
def State.dropHolds (s : State) (p : Ch → Bool) : State := { s with holds := s.holds.filter fun e => !p e.ch }

/-- Channels take new load settings at one moment, before the Sequencer and the output law see the change (R66, R69). -/
def State.writeLoads (s : State) (new : Ch → LoadSettings) : State :=
  let t := (s.mapChans fun i c => c.write (new i)).dropHolds fun i => s.chans[i].cfg.dropsHold (new i)
  { t with notices := t.notices.level .latch s.latchCondition t.latchCondition }

end Sys2Proof.Machine
end

