-- ==== Sys2Proof/Machine/Ops.lean ====
section
/-! DEFINITION. Ops: the shared operations over the whole part: the clock, the power state, the scan, force lapses, resets,
and the acceptance of a request with its reply. -/

namespace Sys2Proof.Machine

/-- The time since the command before this one has passed. -/
def State.elapse (s : State) (dt : Nat) : State := { s with now := s.now + dt }

/-- A command that acts only while no reset is in progress (R144). -/
def State.awake (s : State) (f : State → State) : State := if s.inReset.isSome then s else f s

/-! ### Scans and the power state (R2 to R6, R137) -/

/-- The plan of a scan formed from the state of the part (R2). -/
def State.planNow (s : State) : Vector Bool 24 :=
  Vector.ofFn fun i => s.fitted i && (decide (s.power.st = .run) || s.chans[i].out)

/-- A scan begins: its plan is fixed, and the scan timer starts with its period (R2, R3, R4). -/
def State.beginScan (s : State) : State :=
  { s.mapChans fun _ c => { c with onBefore := c.out } with
    scanner :=
      { s.scanner with
        inFlight := some { power := s.power.st, plan := s.planNow, start := s.now }
        timer := some (s.now + s.power.st.periodMs * Config.unitsPerMs) } }

/-- The part enters DOZE; the scan timer keeps running (R5, R137). -/
def State.enterDoze (s : State) : State :=
  { s with power := { s.power with st := .doze } }.reportIf .dozeEntry true

/-- The part leaves DOZE, when it is in DOZE: the scan timer stops, and a RUN scan begins at once when none is in
flight (R6, R137, R141). -/
def State.exitDoze (s : State) : State :=
  if s.power.st = .doze then
    let t := { s with
      power := { s.power with st := .run, lastExit := s.now }
      scanner := { s.scanner with timer := none } }
    if t.scanner.inFlight.isNone then t.beginScan else t
  else s

/-- The auto-doze test at a scan completion (R140). -/
def State.autoDozeDue (s : State) : Bool :=
  decide (s.power.st = .run) && s.power.cfg.auto
    && decide (s.power.cfg.delay * 60 * Config.unitsPerSecond ≤ s.quietFor)
    && s.est.atRest
    && !s.tiers.anyPending && !s.tiers.anyReleasing && !s.anyForce && !s.isSaving
    && decide (s.link.rx ≠ .collect)
    && decide (s.power.lastExit + Config.wakeUnits ≤ s.now)

/-! ### Force lapse (R132) -/

/-- Every value of the force table is NONE. -/
def State.clearForces (s : State) : State := s.mapChans fun _ c => { c with force := .none }

/-- A force lapse: a lapse that finds a force clears them all as one change and reports one FORCE_LAPSE (R132). -/
def State.lapse (s : State) : State :=
  if s.anyForce then (s.clearForces.reportIf .forceLapse true).resolve else s

/-! ### Resets (R142 to R146) -/

/-- The sources of a reset (R142). -/
inductive ResetSource where
  | powerOn
  | supply
  | pin
  | request
deriving DecidableEq, Repr

/-- The reset in progress after a source has acted; a power-on finds no force (R134, R142). -/
def ResetInfo.act (r : ResetInfo) (src : ResetSource) : ResetInfo :=
  match src with
  | .powerOn => { r with powerOn := true, foundForce := false }
  | .supply => { r with supply := true }
  | .pin => { r with pin := true }
  | .request => r

/-- The link during and after a reset: no count, no frame and no reply is left (R144, R155). -/
def Link.cleared (now : Nat) : Link :=
  { rx := .wait, buffer := [], gapEnd := none, charFall := none, charNoise := false, spaceFall := none,
    falseEnd := none, quietStart := now, quietHanded := false, reply := none, sending := none, counts := LinkCounts.zero }

/-- The start of a reset: the outputs go low and record nothing (R91), every force is NONE (R134), the latches and marks
are cleared and ALERTN is released (R164), the link is silent (R144), the scan in flight is abandoned (R16) and so is
a save (R174), and no timer runs (R144). -/
def State.startReset (s : State) : State :=
  { s with
    inReset := some { powerOn := false, supply := false, pin := false, foundForce := s.anyForce }
    chans := Vector.ofFn fun i => { s.chans[i] with out := false, force := .none, onBefore := false }
    scanner := { s.scanner with inFlight := none, timer := none }
    power :=
      { s.power with
        st := .run
        shore := { s.power.shore with timer := none }
        ign := { s.power.ign with timer := none }
        install := { s.power.install with timer := none } }
    link := Link.cleared s.now
    notices := { s.notices with latch := 0, ackMark := 0, alertn := false }
    store := { s.store with saving := none } }

/-- A reset source acts: it begins a reset, or prolongs the one in progress (R142). -/
def State.resetBy (s : State) (src : ResetSource) : State :=
  let t := if s.inReset.isSome then s else s.startReset
  { t with inReset := t.inReset.map fun r => r.act src }

/-- A reset is cold when power-on or the part-supply monitor acted during it (R142). -/
def ResetInfo.cold (r : ResetInfo) : Bool := r.powerOn || r.supply

/-- The recorded cause by the first line that applies (R142). -/
def ResetInfo.cause (r : ResetInfo) : ResetCause :=
  if r.powerOn then .powerOn else if r.supply then .supplyLow else if r.pin then .pin else .request

/-! ### Accepted frames, answers and replies (R153 to R156) -/

/-- What the Request Handler makes of a request: the status and payload of its reply, and the state as it leaves it. -/
structure Answer where
  status : Status
  payload : List Byte
  state : State
deriving DecidableEq, Repr

/-- A request refused with a status and no payload changes no state (R156). -/
def State.refuse (s : State) (st : Status) : Answer := { status := st, payload := [], state := s }

/-- A request accepted with a status and a payload. -/
def State.accept (s : State) (st : Status) (payload : List Byte) : Answer :=
  { status := st, payload := payload, state := s }

/-- A link count increased by 1, up to its ceiling (R155). -/
def bump (n : Nat) : Nat := min Config.countMax (n + 1)

/-- The Link Interface's part of an accepted frame: GOOD is counted, the link-quiet timer restarts from 0, the receiver
is in WAIT, and no reply of an earlier request is still in preparation (R153, R154). -/
def State.frameGood (s : State) : State :=
  { s with
    link :=
      { s.link with
        rx := .wait, buffer := [], gapEnd := none, charFall := none, charNoise := false, spaceFall := none,
        falseEnd := none, quietStart := s.now, quietHanded := false, reply := none
        counts := { s.link.counts with good := bump s.link.counts.good } } }

/-- The reply's KIND is the request's plus 0x80, and a KIND already at or above 0x80 is returned as it stands (R156). -/
def replyKind (kind : Nat) : Nat := if kind < 0x80 then kind + 0x80 else kind

/-- The earliest start of a reply: two character times after the end of the last stop bit, at whose middle the request
was accepted (R154). -/
def State.earliestReply (s : State) : Nat := s.now + 22 * s.power.bitTime + s.power.bitTime / 2

/-- The reply of an answer becomes the reply in preparation, and goes out whether or not the state changed (R154). -/
def Answer.prepare (a : Answer) (kind : Nat) (tag : Byte) (thenReset : Bool) : State :=
  { a.state with
    link :=
      { a.state.link with
        reply := some
          { kind := replyKind kind, tag := tag, status := a.status, payload := a.payload,
            earliest := a.state.earliestReply, thenReset := thenReset } } }

/-- The kinds that a broadcast may carry: SWITCH, DOZE and RESTART (R153). -/
def takesBroadcast (kind : Nat) : Bool := decide (kind = 0x10) || decide (kind = 0x40) || decide (kind = 0x41)

/-- A request of one kind is handed over by an accepted frame (R153, R154): a broadcast is answered by none and dropped
unless its kind takes one, and every other request yields one reply. An accepted RESTART begins its warm reset after
the reply, or at once when it is a broadcast (R143). -/
def State.handle (s : State) (kind : Nat) (r : Req) (f : List Nat → State → Answer) : State :=
  let s1 := s.frameGood
  if r.bcast && !takesBroadcast kind then s1
  else
    let a := f (r.payload.map BitVec.toNat) s1
    let restarts := decide (kind = 0x41) && decide (a.status = .ok)
    if r.bcast then (if restarts then a.state.resetBy .request else a.state)
    else a.prepare kind r.tag restarts

/-- A request command. The frame that carries it is accepted at this moment (R153). No frame is received during a
reset (R144) or while a reply goes out (R149), and a RESTART whose reply is still in preparation has lost it to the
frame's first start bit, at which its reset began (R143; notes/assumptions/9.md). -/
def State.request (s : State) (dt kind : Nat) (r : Req) (f : List Nat → State → Answer) :
    Host.Outcome State Fault Refusal :=
  .next <| (s.elapse dt).awake fun s =>
    if s.link.rx = .send then s
    else if s.link.reply.any Reply.thenReset then s.resetBy .request
    else s.handle kind r f

/-- An event command. -/
def State.event (s : State) (dt : Nat) (f : State → State) : Host.Outcome State Fault Refusal :=
  .next <| (s.elapse dt).awake f

end Sys2Proof.Machine
end

