-- ==== Sys2Proof/Machine/Reads.lean ====
section
/-! DEFINITION. Reads: IDENT, STATUS, LOAD_STATUS, LINK_STATUS, COUNTERS_READ and MEASURE. -/

namespace Sys2Proof.Machine

/-! ### IDENT (R159) -/

/-- The 14 characters of IDENT (R159). -/
def State.identPayload (s : State) : List Byte :=
  Config.partCode.flatMap u8 ++ u8 Config.revision ++ u8 s.power.unitAddress ++ u8 s.power.br.toNat
    ++ u8 s.power.cause.code ++ u8 s.store.source.code ++ u16 s.store.eraseCount ++ setField s.fitted

/-- IDENT at the Request Handler (R159). -/
def ansIdent (p : List Nat) (s : State) : Answer :=
  match p with
  | [] => s.accept .ok s.identPayload
  | _ => s.refuse .badLength

/-- IDENT (R159). -/
def execIdent (dt : Nat) (r : Req) (s : State) : Host.Outcome State Fault Refusal := s.request dt 0x01 r ansIdent

/-! ### STATUS (R158) -/

/-- The estimator flags of STATUS (R158). -/
def State.estimatorFlags (s : State) : Nat :=
  bitIf s.est.unconfirmed 1 + bitIf s.est.curveValid 2 + bitIf s.est.fullLatched 4 + bitIf s.scanner.senseFault 8

/-- The lines of STATUS (R158). -/
def State.lines (s : State) : Nat :=
  bitIf s.notices.alertn 1 + bitIf s.power.shore.deb 2 + bitIf s.power.ign.deb 4 + bitIf s.power.install.deb 8

/-- The voltage of the latest scan record, 0 with no record (R158). -/
def State.measuredVoltage (s : State) : Nat := (s.scanner.record.map ScanRecord.voltage).getD 0

/-- The battery current of the latest scan record, 0 with no record (R158). -/
def State.latestCurrent (s : State) : Int := (s.scanner.record.map ScanRecord.current).getD 0

/-- The 29 characters of STATUS (R158). -/
def State.statusPayload (s : State) : List Byte :=
  u8 (if s.power.st = .doze then 1 else 0) ++ u8 s.seq.st.code ++ u8 s.tiers.depth
    ++ s.tiers.recs.toList.flatMap (fun r => u8 r.st.code)
    ++ u16 s.measuredVoltage ++ s16 s.latestCurrent ++ s16 s.est.averaged ++ u16 s.est.compensated ++ u16 s.est.reserve
    ++ u8 s.est.st.code ++ u8 s.estimatorFlags ++ noticeField s.notices.latch ++ noticeField s.notices.mask ++ u8 s.lines
    ++ u8 (bitIf s.isSaving 1) ++ u8 s.store.outcome.code
    ++ u16 (min Config.countMax (s.quietFor / Config.unitsPerSecond))

/-- STATUS at the Request Handler (R158). -/
def ansStatus (p : List Nat) (s : State) : Answer :=
  match p with
  | [] => s.accept .ok s.statusPayload
  | _ => s.refuse .badLength

/-- STATUS (R158). -/
def execStatus (dt : Nat) (r : Req) (s : State) : Host.Outcome State Fault Refusal := s.request dt 0x02 r ansStatus

/-! ### LOAD_STATUS (R90, R160) -/

/-- A channel's position in the priority list, 1 to 24 (R93). -/
def State.position (s : State) (i : Ch) : Nat := s.seq.order.idxOf i + 1

/-- The state flags of a load record (R160). -/
def State.loadFlags (s : State) (i : Ch) : Nat :=
  let c := s.chans[i]
  bitIf c.demand 1 + bitIf c.out 2 + bitIf c.mark.isSome 4 + bitIf c.openFlag 8 + bitIf (s.held i) 16
    + bitIf (decide (c.force ≠ .none)) 32 + bitIf (decide (c.force = .on)) 64 + bitIf c.restLock.isSome 128

/-- The hold remaining of a channel in minutes, rounded up; 0 when it is not held (R160). -/
def State.holdRemaining (s : State) (i : Ch) : Nat :=
  remaining s.now Config.unitsPerMinute ((s.holds.find? fun e => decide (e.ch = i)).map HoldEntry.expiry)

/-- The current of a channel in the latest scan record, 0 with no record (R90). -/
def State.channelCurrent (s : State) (i : Ch) : Nat := (s.scanner.record.map fun r => r.currents[i]).getD 0

/-- A load record of 19 characters (R160). -/
def State.loadRecord (s : State) (i : Ch) : List Byte :=
  let c := s.chans[i]
  u8 (channelNo i) ++ u8 (s.position i) ++ u8 (s.loadFlags i) ++ u8 (16 * c.prot.code + c.retries)
    ++ u16 (if c.prot = .tripWait then remaining s.now Config.unitsPerSecond c.retryEnd else 0)
    ++ u8 (s.holdRemaining i) ++ u8 c.holdingCauses ++ u8 c.lastOff.cause.code ++ u16 c.lastOff.detail
    ++ u16 (s.channelCurrent i) ++ u32 c.usage
    ++ u16 (remaining s.now Config.unitsPerSecond (if c.out then c.runLock else c.restLock))

/-- A number names a fitted channel (R68, R156). -/
def State.fittedChannel (s : State) (k : Nat) : Option Ch := (channelOf k).filter s.fitted

/-- LOAD_STATUS at the Request Handler (R90): the channels first, then the count (R156). -/
def ansLoadStatus (p : List Nat) (s : State) : Answer :=
  match p with
  | [k, count] =>
    match s.fittedChannel k with
    | none => s.refuse .badChannel
    | some i =>
      if count = 1 then s.accept .ok (s.loadRecord i)
      else if count = 2 then
        match s.fittedChannel (k + 1) with
        | none => s.refuse .badChannel
        | some j => s.accept .ok (s.loadRecord i ++ s.loadRecord j)
      else s.refuse .badValue
  | _ => s.refuse .badLength

/-- LOAD_STATUS (R90). -/
def execLoadStatus (dt : Nat) (r : Req) (s : State) : Host.Outcome State Fault Refusal :=
  s.request dt 0x03 r ansLoadStatus

/-! ### LINK_STATUS (R155) -/

/-- The nine link counts, two characters each (R155). -/
def LinkCounts.field (c : LinkCounts) : List Byte :=
  u16 c.good ++ u16 c.framing ++ u16 c.brk ++ u16 c.noise ++ u16 c.short ++ u16 c.gap ++ u16 c.length ++ u16 c.crc
    ++ u16 c.dropped

/-- LINK_STATUS at the Request Handler (R155). -/
def ansLinkStatus (p : List Nat) (s : State) : Answer :=
  match p with
  | [] => s.accept .ok s.link.counts.field
  | _ => s.refuse .badLength

/-- LINK_STATUS (R155). -/
def execLinkStatus (dt : Nat) (r : Req) (s : State) : Host.Outcome State Fault Refusal :=
  s.request dt 0x04 r ansLinkStatus

/-! ### COUNTERS_READ (R167) -/

/-- An entry of COUNTERS_READ: while INSTALL is not asserted, the value of a counter that is not visible is withheld
(R167). -/
def Counter.entry (install : Bool) (c : Counter) : List Byte :=
  let withheld := !install && !c.sel.visible
  u8 c.sel.kind.code ++ u8 c.sel.qualifier ++ u8 (bitIf c.sel.inhibit 1 + bitIf c.sel.visible 2 + bitIf withheld 4)
    ++ u32 (if withheld then 0 else c.value)

/-- COUNTERS_READ at the Request Handler (R167). -/
def ansCountersRead (p : List Nat) (s : State) : Answer :=
  match p with
  | [] => s.accept .ok (s.tally.toList.flatMap (Counter.entry s.power.install.deb))
  | _ => s.refuse .badLength

/-- COUNTERS_READ (R167). -/
def execCountersRead (dt : Nat) (r : Req) (s : State) : Host.Outcome State Fault Refusal :=
  s.request dt 0x05 r ansCountersRead

/-! ### MEASURE (R15) -/

/-- The scan record in 55 characters (R15). -/
def ScanRecord.field (r : ScanRecord) : List Byte :=
  u16 r.number ++ u16 r.voltage ++ s16 r.current
    ++ u8 (bitIf (decide (r.vStanding = .valid)) 1 + bitIf (decide (r.iStanding = .valid)) 2 + bitIf r.senseFault 4
        + bitIf (decide (r.power = .doze)) 8)
    ++ r.currents.toList.flatMap u16

/-- The latest scan record, or zeros when no scan has completed since the last reset (R15). -/
def State.measurePayload (s : State) : List Byte :=
  match s.scanner.record with
  | some r => r.field
  | none => List.replicate 55 0

/-- MEASURE at the Request Handler (R15). -/
def ansMeasure (p : List Nat) (s : State) : Answer :=
  match p with
  | [] => s.accept .ok s.measurePayload
  | _ => s.refuse .badLength

/-- MEASURE (R15). -/
def execMeasure (dt : Nat) (r : Req) (s : State) : Host.Outcome State Fault Refusal := s.request dt 0x06 r ansMeasure

end Sys2Proof.Machine
end

