-- ==== Sys2Proof/Machine/Loads.lean ====
section
/-! DEFINITION. Loads: SWITCH, HOLD, RELEASE_HOLD, FORCE, CLEAR_TRIP and CLEAR_USAGE. -/

namespace Sys2Proof.Machine

/-! ### Effective sets (R68) -/

/-- A channel is in the effective set: named and fitted (R68). -/
def State.effective (s : State) (set : Nat) (i : Ch) : Bool := named set i && s.fitted i

/-- A named channel was removed by the fitted mask (R68). -/
def State.cut (s : State) (set : Nat) : Bool := channels.any fun i => named set i && !s.fitted i

/-! ### SWITCH (R76, R77, R84, R110, R114) -/

/-- Demand becomes ON for the channels of a set whose demand is OFF, and those that arrive in the must-shed set or in
SETTLE are marked before their outputs are derived (R76, R110, R114). -/
def State.switchOn (s : State) (set : Nat) : State :=
  let arrives : Ch → Bool := fun i => s.effective set i && !s.chans[i].demand
  if channels.any arrives then
    let t := s.mapChans fun i c => if arrives i then { c with demand := true } else c
    (t.markEach fun i => if arrives i then t.arrivalMark i else none).resolve
  else s

/-- Demand becomes OFF for the channels of a set whose demand is ON: the mark and the hold entry go, and TRIP_WAIT
becomes NORMAL (R77, R84). -/
def State.switchOff (s : State) (set : Nat) : State :=
  let leaves : Ch → Bool := fun i => s.effective set i && s.chans[i].demand
  if channels.any leaves then
    let t := s.mapChans fun i c =>
      if leaves i then
        { (if c.prot = .tripWait then c.toNormal else c) with demand := false, mark := none }
      else c
    (t.dropHolds leaves).resolve
  else s

/-- SWITCH at the Request Handler: the reply carries the effective set and those of it whose output is on (R76, R77). -/
def ansSwitch (p : List Nat) (s : State) : Answer :=
  match p with
  | [a, b, c, v] =>
    match flagOf v with
    | none => s.refuse .badValue
    | some on =>
      let set := be24 a b c
      let t := if on then s.switchOn set else s.switchOff set
      t.accept (clampedIf (s.cut set))
        (setField (s.effective set) ++ setField fun i => s.effective set i && t.chans[i].out)
  | _ => s.refuse .badLength

/-- SWITCH (R76). -/
def execSwitch (dt : Nat) (r : Req) (s : State) : Host.Outcome State Fault Refusal := s.request dt 0x10 r ansSwitch

/-! ### HOLD and RELEASE_HOLD (R122, R125) -/

/-- An entry takes its place in the order of expiry, behind the entries that expire no later (R121). -/
def placeHold (e : HoldEntry) (l : List HoldEntry) : List HoldEntry :=
  l.takeWhile (fun x => decide (x.expiry ≤ e.expiry)) ++ e :: l.dropWhile (fun x => decide (x.expiry ≤ e.expiry))

/-- The entries in list order, each a channel and its remaining minutes rounded up (R122). -/
def State.holdField (s : State) : List Byte :=
  u8 s.holds.length
    ++ s.holds.flatMap fun e => u8 (channelNo e.ch) ++ u8 (remaining s.now Config.unitsPerMinute (some e.expiry))

/-- The last whole millisecond of the clock at or before a moment (R121; notes/assumptions/12.md). -/
def toMillisecond (moment : Nat) : Nat := moment / Config.unitsPerMs * Config.unitsPerMs

/-- The entry that a HOLD of `minutes` places now: its expiry moment is kept to the millisecond (R121). -/
def State.holdEntry (s : State) (i : Ch) (minutes : Nat) : HoldEntry :=
  { ch := i, expiry := toMillisecond s.now + minutes * Config.unitsPerMinute, placed := s.now }

/-- A re-hold: the entry is given a new expiry and placing moment and is placed anew (R122). -/
def State.rehold (s : State) (i : Ch) (minutes : Nat) : State :=
  let t := s.dropHolds fun j => decide (j = i)
  { t with holds := placeHold (s.holdEntry i minutes) t.holds }

/-- A new entry is placed, and the Sequencer reconsiders on it (R121, R122). -/
def State.placeNew (s : State) (i : Ch) (minutes : Nat) : State :=
  { s with holds := placeHold (s.holdEntry i minutes) s.holds }.resolve

/-- HOLD at the Request Handler and the Override Unit (R122). -/
def ansHold (p : List Nat) (s : State) : Answer :=
  match p with
  | [k, m] =>
    match s.fittedChannel k with
    | none => s.refuse .badChannel
    | some i =>
      let refused : Status → Answer := fun st => s.accept st (u8 k ++ u8 s.holds.length)
      let minutes := clampNat 1 240 m
      let accepted : State → Answer := fun t =>
        t.accept (clampedIf (decide (minutes ≠ m))) (u8 k ++ u8 minutes ++ t.holdField)
      if s.chans[i].cfg.cls ≠ .sheddable ∨ s.chans[i].demand = false then refused .notApplicable
      else if s.held i then accepted (s.rehold i minutes)
      else if 4 ≤ s.holds.length then refused .holdFull
      else accepted (s.placeNew i minutes)
  | _ => s.refuse .badLength

/-- HOLD (R122). -/
def execHold (dt : Nat) (r : Req) (s : State) : Host.Outcome State Fault Refusal := s.request dt 0x11 r ansHold

/-- A channel's entry is removed, and the Sequencer reconsiders on the removal; an absent entry changes nothing
(R125). -/
def State.release (s : State) (i : Ch) : State :=
  if s.held i then (s.dropHolds fun j => decide (j = i)).resolve else s

/-- RELEASE_HOLD at the Request Handler (R125). -/
def ansReleaseHold (p : List Nat) (s : State) : Answer :=
  match p with
  | [k] =>
    match s.fittedChannel k with
    | none => s.refuse .badChannel
    | some i => let t := s.release i; t.accept .ok (u8 k ++ t.holdField)
  | _ => s.refuse .badLength

/-- RELEASE_HOLD (R125). -/
def execReleaseHold (dt : Nat) (r : Req) (s : State) : Host.Outcome State Fault Refusal :=
  s.request dt 0x12 r ansReleaseHold

/-! ### FORCE (R129) -/

/-- A channel's force is set; a value equal to the one held is no change (R128, R129). -/
def State.setForce (s : State) (i : Ch) (f : Force) : State :=
  if s.chans[i].force = f then s else (s.setChan i { s.chans[i] with force := f }).resolve

/-- FORCE at the Request Handler, its checks in their order (R129). -/
def ansForce (p : List Nat) (s : State) : Answer :=
  match p with
  | [k, v] =>
    match s.fittedChannel k with
    | none => s.refuse .badChannel
    | some i =>
      match Force.ofCode v with
      | none => s.refuse .badValue
      | some f =>
        if s.power.install.deb = false then s.refuse .denied
        else if s.power.st = .doze then s.refuse .notApplicable
        else
          let t := s.setForce i f
          t.accept .ok (u8 k ++ u8 f.code ++ u8 (bitIf t.chans[i].out 1))
  | _ => s.refuse .badLength

/-- FORCE (R129). -/
def execForce (dt : Nat) (r : Req) (s : State) : Host.Outcome State Fault Refusal := s.request dt 0x13 r ansForce

/-! ### CLEAR_TRIP and CLEAR_USAGE (R85, R89) -/

/-- The channels of a set return to NORMAL with retries used 0, and their outputs are derived (R85). -/
def State.clearTrips (s : State) (set : Nat) : State :=
  let t := s.mapChans fun i c => if s.effective set i then { c.toNormal with retries := 0 } else c
  { t with notices := t.notices.level .latch s.latchCondition t.latchCondition }.resolveOutputs

/-- CLEAR_TRIP at the Request Handler (R85). -/
def ansClearTrip (p : List Nat) (s : State) : Answer :=
  match p with
  | [a, b, c] =>
    let set := be24 a b c
    (s.clearTrips set).accept (clampedIf (s.cut set)) (setField (s.effective set))
  | _ => s.refuse .badLength

/-- CLEAR_TRIP (R85). -/
def execClearTrip (dt : Nat) (r : Req) (s : State) : Host.Outcome State Fault Refusal :=
  s.request dt 0x14 r ansClearTrip

/-- The usage of the channels of a set becomes 0 (R89). -/
def State.clearUsage (s : State) (set : Nat) : State :=
  s.mapChans fun i c => if s.effective set i then { c with usage := 0 } else c

/-- CLEAR_USAGE at the Request Handler (R89). -/
def ansClearUsage (p : List Nat) (s : State) : Answer :=
  match p with
  | [a, b, c] =>
    let set := be24 a b c
    (s.clearUsage set).accept (clampedIf (s.cut set)) (setField (s.effective set))
  | _ => s.refuse .badLength

/-- CLEAR_USAGE (R89). -/
def execClearUsage (dt : Nat) (r : Req) (s : State) : Host.Outcome State Fault Refusal :=
  s.request dt 0x15 r ansClearUsage

end Sys2Proof.Machine
end

