-- ==== Sys2Proof/Machine/Acknowledging.lean ====
section
/-! DEFINITION. Acknowledging: ACK, MASK, COUNTERS_CLEAR and CLEAR_LINK_COUNTS. -/

namespace Sys2Proof.Machine

/-- A notice set that names no code above 8 (R163, R164). -/
def noticeSet (hi lo : Nat) : Option (BitVec 9) :=
  if be16 hi lo < 512 then some (BitVec.ofNat 9 (be16 hi lo)) else none

/-- ACK at the Request Handler: the reply carries the latch set, the mask set and the acknowledge-mark set (R164). -/
def ansAck (p : List Nat) (s : State) : Answer :=
  match p with
  | [hi, lo] =>
    match noticeSet hi lo with
    | none => s.refuse .badValue
    | some names =>
      let n := s.notices.acknowledge names s.conditions
      ({ s with notices := n }).accept .ok (noticeField n.latch ++ noticeField n.mask ++ noticeField n.ackMark)
  | _ => s.refuse .badLength

/-- ACK (R164). -/
def execAck (dt : Nat) (r : Req) (s : State) : Host.Outcome State Fault Refusal := s.request dt 0x20 r ansAck

/-- All nine masks are replaced at one moment, and ALERTN is formed again (R163). -/
def State.setMasks (s : State) (m : BitVec 9) : State := { s with notices := s.notices.setMask m }

/-- MASK at the Request Handler: the reply carries the mask set and the latch set (R163). -/
def ansMask (p : List Nat) (s : State) : Answer :=
  match p with
  | [hi, lo] =>
    match noticeSet hi lo with
    | none => s.refuse .badValue
    | some m => (s.setMasks m).accept .ok (noticeField m ++ noticeField s.notices.latch)
  | _ => s.refuse .badLength

/-- MASK (R163). -/
def execMask (dt : Nat) (r : Req) (s : State) : Host.Outcome State Fault Refusal := s.request dt 0x21 r ansMask

/-- The values of the counters named by a counter set become 0 (R168). -/
def State.clearCounters (s : State) (set : Nat) : State :=
  { s with tally := Vector.ofFn fun k =>
      if set.testBit k.val then { s.tally[k] with value := 0 } else s.tally[k] }

/-- COUNTERS_CLEAR at the Request Handler (R168). -/
def ansCountersClear (p : List Nat) (s : State) : Answer :=
  match p with
  | [set] => (s.clearCounters set).accept .ok (u8 set)
  | _ => s.refuse .badLength

/-- COUNTERS_CLEAR (R168). -/
def execCountersClear (dt : Nat) (r : Req) (s : State) : Host.Outcome State Fault Refusal :=
  s.request dt 0x22 r ansCountersClear

/-- CLEAR_LINK_COUNTS at the Request Handler: all nine counts become 0 (R155). -/
def ansClearLinkCounts (p : List Nat) (s : State) : Answer :=
  match p with
  | [] => ({ s with link := { s.link with counts := LinkCounts.zero } }).accept .ok []
  | _ => s.refuse .badLength

/-- CLEAR_LINK_COUNTS (R155). -/
def execClearLinkCounts (dt : Nat) (r : Req) (s : State) : Host.Outcome State Fault Refusal :=
  s.request dt 0x23 r ansClearLinkCounts

end Sys2Proof.Machine
end

