-- ==== Sys2Proof/Machine/Profiles.lean ====
section
/-! DEFINITION. Profiles: PROFILE_READ, the eight PROFILE_WRITE rows, MOVE, SAVE, LOAD_DEFAULTS and SET_CHARGE. -/

namespace Sys2Proof.Machine

/-! ### Access and busy (R156, R171) -/

/-- Step 6 of R156: a request that SAVING refuses. -/
def State.whenIdle (s : State) (a : Answer) : Answer := if s.isSaving then s.refuse .busy else a

/-- Steps 5 and 6 of R156: a request of the INSTALLER group. -/
def State.whenInstaller (s : State) (a : Answer) : Answer :=
  if s.power.install.deb then s.whenIdle a else s.refuse .denied

/-- The live sections gathered from their owners (R173). -/
def State.gather (s : State) : Profile :=
  { battery := s.est.battery
    tiers := Vector.ofFn fun k => s.tiers.recs[k].cfg
    loads := Vector.ofFn fun i => s.chans[i].cfg
    order := s.seq.order
    curve := s.est.curve
    sequence := s.seq.cfg
    masks := s.notices.mask
    counters := Vector.ofFn fun k => s.tally[k].sel
    doze := s.power.cfg }

/-! ### PROFILE_READ (R172) -/

/-- `count` records from index `index` of a section whose first index is `lo`, when the request lies in the table of
R172 with at most `most` records. -/
def readRange {α : Type} (field : α → List Byte) (records : List α) (lo most index count : Nat) : Option (List Byte) :=
  if lo ≤ index ∧ 1 ≤ count ∧ count ≤ most ∧ index + count ≤ lo + records.length then
    some (((records.drop (index - lo)).take count).flatMap field)
  else none

/-- The one record of a section that is read whole, with index 0 and count 1 (R172). -/
def readWhole (field : List Byte) (index count : Nat) : Option (List Byte) :=
  if index = 0 ∧ count = 1 then some field else none

/-- The records that PROFILE_READ asks for, as the owners hold them live; absent when the section, the index or the
count is not one of R172. -/
def Profile.read (p : Profile) (sec index count : Nat) : Option (List Byte) :=
  match sec with
  | 1 => readWhole p.battery.field index count
  | 2 => readRange TierSettings.field p.tiers.toList 1 5 index count
  | 3 => readRange LoadSettings.field p.loads.toList 1 3 index count
  | 4 => readRange (fun i => u8 (channelNo i)) p.order 1 24 index count
  | 5 => readRange CurvePoint.field p.curve.toList 0 13 index count
  | 6 => readWhole p.sequence.field index count
  | 7 => readWhole (noticeField p.masks) index count
  | 8 => readRange Selector.field p.counters.toList 1 8 index count
  | 9 => readWhole p.doze.field index count
  | _ => none

/-- PROFILE_READ at the Request Handler (R172). -/
def ansProfileRead (p : List Nat) (s : State) : Answer :=
  match p with
  | [sec, index, count] =>
    if sec = 3 ∧ (index = 0 ∨ 24 < index) then s.refuse .badChannel
    else
      match s.gather.read sec index count with
      | some field => s.accept .ok (u8 sec ++ u8 index ++ u8 count ++ field)
      | none => s.refuse .badValue
  | _ => s.refuse .badLength

/-- PROFILE_READ (R172). -/
def execProfileRead (dt : Nat) (r : Req) (s : State) : Host.Outcome State Fault Refusal :=
  s.request dt 0x30 r ansProfileRead

/-! ### PROFILE_WRITE to BATTERY (R35) -/

/-- The seven settings of a BATTERY write as written (R35). -/
def parseBattery : List Nat → Option BatterySettings
  | [a, a', b, b', c, c', d, d', e, e', f, f', g, g'] =>
    some
      { capacity := be16 a a', resistance := be16 b b', restCurrent := be16 c c', restTime := be16 d d',
        fullVoltage := be16 e e', tailCurrent := be16 f f', fullHold := be16 g g' }
  | _ => none

/-- A write to BATTERY at the Request Handler (R35, R171). -/
def ansWriteBattery (p : List Nat) (s : State) : Answer :=
  match parseBattery p with
  | none => s.refuse .badLength
  | some w =>
    s.whenInstaller <|
      ({ s with est := s.est.setBattery w.clamp }).accept (clampedIf (decide (w.clamp ≠ w))) w.clamp.field

/-- PROFILE_WRITE to BATTERY (R35). -/
def execProfileWriteBattery (dt : Nat) (r : Req) (s : State) : Host.Outcome State Fault Refusal :=
  s.request dt 0x31 r ansWriteBattery

/-! ### PROFILE_WRITE to TIERS (R45) -/

/-- The record of a TIERS write as written: for the cutoff the measure and suppress characters are not examined, and
for a tier they are codes (R45). -/
def parseTier (k : Fin 5) (m f f' u u' conf rel sup : Nat) : Option TierSettings :=
  if k = 4 then some ⟨.voltage, be16 f f', be16 u u', conf, rel, false⟩
  else
    match Measure.ofCode m, flagOf sup with
    | some m, some sup => some ⟨m, be16 f f', be16 u u', conf, rel, sup⟩
    | _, _ => none

/-- One record is replaced, and the Sequencer reconsiders when the depth or the PENDING state has changed
(R54, R55, R58, R59). -/
def State.writeTier (s : State) (k : Fin 5) (cfg : TierSettings) : State :=
  let t := { s with tiers := s.tiers.write k cfg s.sourcePresent }
  if s.tiers.handsOver t.tiers then t.resolve else t

/-- A write to TIERS at the Request Handler (R45, R171). -/
def ansWriteTiers (p : List Nat) (s : State) : Answer :=
  match p with
  | [index, m, f, f', u, u', conf, rel, sup] =>
    if h : 1 ≤ index ∧ index ≤ 5 then
      let k : Fin 5 := ⟨index - 1, by omega⟩
      match parseTier k m f f' u u' conf rel sup with
      | none => s.refuse .badValue
      | some w =>
        s.whenInstaller <|
          (s.writeTier k w.clamp).accept (clampedIf (decide (w.clamp ≠ w))) (u8 index ++ w.clamp.field)
    else s.refuse .badValue
  | _ => s.refuse .badLength

/-- PROFILE_WRITE to TIERS (R45). -/
def execProfileWriteTiers (dt : Nat) (r : Req) (s : State) : Host.Outcome State Fault Refusal :=
  s.request dt 0x31 r ansWriteTiers

/-! ### PROFILE_WRITE to LOADS (R66) -/

/-- The rows of 16 characters that a LOADS write of `n` records carries; absent when the length is another (R66). -/
def loadRows : Nat → List Nat → Option (List (List Nat))
  | 0, [] => some []
  | 0, _ :: _ => none
  | n + 1, l => if l.length < 16 then none else (loadRows n (l.drop 16)).map (l.take 16 :: ·)

/-- One record of a LOADS write as written; absent when a code is not defined (R66). -/
def parseLoad : List Nat → Option LoadSettings
  | [fit, cls, tier, l, l', trip, blank, count, delay, on, on', off, off', op, op', start] =>
    match flagOf fit, LoadClass.ofCode cls, flagOf start with
    | some fit, some cls, some start =>
      some
        { fitted := fit, cls := cls, shedTier := tier, limit := be16 l l', tripCount := trip, blanking := blank,
          retryCount := count, retryDelay := delay, minOn := be16 on on', minOff := be16 off off',
          openLevel := be16 op op', startDemand := start }
    | _, _, _ => none
  | _ => none

/-- All of a list of optional values, or nothing. -/
def allSome {α : Type} : List (Option α) → Option (List α)
  | [] => some []
  | none :: _ => none
  | some a :: l => (allSome l).map (a :: ·)

/-- The settings that a write of `ws` from channel number `first` gives a channel; the other channels keep theirs. -/
def State.loadsWith (s : State) (first : Nat) (ws : List LoadSettings) (i : Ch) : LoadSettings :=
  if first ≤ channelNo i then (ws[channelNo i - first]?).getD s.chans[i].cfg else s.chans[i].cfg

/-- Load settings take effect at one moment; when they act on shedding, the Sequencer reconsiders and the outputs are
derived (R66, R67, R69, R70). -/
def State.setLoads (s : State) (new : Ch → LoadSettings) : State :=
  let t := s.writeLoads new
  if channels.any fun i => s.chans[i].cfg.actsOnShedding (new i) then t.resolve else t

/-- A write to LOADS at the Request Handler, its checks in the order of R66. -/
def ansWriteLoads (p : List Nat) (s : State) : Answer :=
  match p with
  | [] => s.refuse .badLength
  | first :: rest =>
    let n := rest.length / 16
    match loadRows n rest with
    | none => s.refuse .badLength
    | some rows =>
      if n = 0 ∨ 3 < n then s.refuse .badLength
      else if first = 0 ∨ 25 < first + n then s.refuse .badChannel
      else
        match allSome (rows.map parseLoad) with
        | none => s.refuse .badValue
        | some ws =>
          let touches := channels.any fun i => s.chans[i].cfg.touchesInstaller (s.loadsWith first ws i)
          let stored := ws.map LoadSettings.clamp
          let done := (s.setLoads (s.loadsWith first stored)).accept (clampedIf (decide (stored ≠ ws)))
            (u8 first ++ stored.flatMap LoadSettings.field)
          if touches then s.whenInstaller done else s.whenIdle done

/-- PROFILE_WRITE to LOADS (R66). -/
def execProfileWriteLoads (dt : Nat) (r : Req) (s : State) : Host.Outcome State Fault Refusal :=
  s.request dt 0x31 r ansWriteLoads

/-! ### PROFILE_WRITE to CURVE (R33) -/

/-- The points of a CURVE write as written; absent when the characters are no whole number of points (R33). -/
def parsePoints : List Nat → Option (List CurvePoint)
  | [] => some []
  | a :: b :: c :: d :: rest => (parsePoints rest).map ({ mv := be16 a b, reserve := be16 c d } :: ·)
  | _ => none

/-- The curve with points stored at consecutive indices from `start`; those above 15 are dropped (R33). -/
def curveWith (curve : Vector CurvePoint 16) (start : Nat) (pts : List CurvePoint) : Vector CurvePoint 16 :=
  Vector.ofFn fun k => if start ≤ k.val then (pts[k.val - start]?).getD curve[k] else curve[k]

/-- A write to CURVE at the Request Handler (R33, R171). -/
def ansWriteCurve (p : List Nat) (s : State) : Answer :=
  match p with
  | [] => s.refuse .badLength
  | start :: rest =>
    match parsePoints rest with
    | none => s.refuse .badLength
    | some pts =>
      if pts.length = 0 ∨ 13 < pts.length then s.refuse .badLength
      else
        let kept := pts.take (16 - start)
        let stored := kept.map CurvePoint.clamp
        s.whenInstaller <|
          ({ s with est := s.est.setCurve (curveWith s.est.curve start stored) }).accept
            (clampedIf (decide (stored ≠ pts)))
            (u8 start ++ u8 stored.length ++ stored.flatMap CurvePoint.field)

/-- PROFILE_WRITE to CURVE (R33). -/
def execProfileWriteCurve (dt : Nat) (r : Req) (s : State) : Host.Outcome State Fault Refusal :=
  s.request dt 0x31 r ansWriteCurve

/-! ### PROFILE_WRITE to SEQUENCE (R100) -/

/-- New sequence settings; the Sequencer reconsiders on a change (R100). -/
def State.setSequence (s : State) (cfg : SequenceSettings) : State :=
  if cfg = s.seq.cfg then s else { s with seq := { s.seq with cfg := cfg } }.resolve

/-- A write to SEQUENCE at the Request Handler (R100, R171). -/
def ansWriteSequence (p : List Nat) (s : State) : Answer :=
  match p with
  | [a, a', b, b', c, c'] =>
    let w : SequenceSettings := { shedSpacing := be16 a a', restoreSpacing := be16 b b', settleTime := be16 c c' }
    s.whenInstaller <| (s.setSequence w.clamp).accept (clampedIf (decide (w.clamp ≠ w))) w.clamp.field
  | _ => s.refuse .badLength

/-- PROFILE_WRITE to SEQUENCE (R100). -/
def execProfileWriteSequence (dt : Nat) (r : Req) (s : State) : Host.Outcome State Fault Refusal :=
  s.request dt 0x31 r ansWriteSequence

/-! ### PROFILE_WRITE to NOTICE (R163) -/

/-- A write to NOTICE at the Request Handler: it acts on the masks as MASK does (R163), and it is answered, as every write to a
section is, with the stored values (R171). -/
def ansWriteNotice (p : List Nat) (s : State) : Answer :=
  match p with
  | [hi, lo] =>
    match noticeSet hi lo with
    | none => s.refuse .badValue
    | some m => s.whenIdle ((s.setMasks m).accept .ok (noticeField m))
  | _ => s.refuse .badLength

/-- PROFILE_WRITE to NOTICE (R163). -/
def execProfileWriteNotice (dt : Nat) (r : Req) (s : State) : Host.Outcome State Fault Refusal :=
  s.request dt 0x31 r ansWriteNotice

/-! ### PROFILE_WRITE to COUNTERS (R166) -/

/-- An entry of a COUNTERS write as written: the kind and qualifier characters and the flags character (R166). -/
structure RawEntry where
  kind : Nat
  qualifier : Nat
  flags : Nat
deriving DecidableEq, Repr

/-- The entries of a COUNTERS write; absent when the characters are no whole number of entries (R166). -/
def parseEntries : List Nat → Option (List RawEntry)
  | [] => some []
  | k :: q :: f :: rest => (parseEntries rest).map ({ kind := k, qualifier := q, flags := f } :: ·)
  | _ => none

/-- An entry as stored: a kind above 14 as NONE, and a qualifier outside the range of its kind as 0 (R166). -/
def RawEntry.stored (e : RawEntry) : Selector :=
  Selector.clamp
    { kind := .ofCode e.kind, qualifier := e.qualifier, inhibit := e.flags.testBit 0, visible := e.flags.testBit 1 }

/-- The kind or the qualifier of an entry was changed on storing (R166). -/
def RawEntry.changed (e : RawEntry) : Bool :=
  decide (14 < e.kind) || decide (e.stored.qualifier ≠ e.qualifier)

/-- The counters with new selectors from counter number `first`, their values kept (R166). -/
def State.setSelectors (s : State) (first : Nat) (sels : List Selector) : State :=
  { s with tally := Vector.ofFn fun k =>
      { s.tally[k] with
        sel := if first ≤ k.val + 1 then (sels[k.val + 1 - first]?).getD s.tally[k].sel else s.tally[k].sel } }

/-- A write to COUNTERS at the Request Handler (R166, R171). -/
def ansWriteCounters (p : List Nat) (s : State) : Answer :=
  match p with
  | [] => s.refuse .badLength
  | first :: rest =>
    match parseEntries rest with
    | none => s.refuse .badLength
    | some es =>
      if es.length = 0 ∨ 8 < es.length then s.refuse .badLength
      else if first = 0 ∨ 9 < first + es.length ∨ es.any fun e => decide (3 < e.flags) then s.refuse .badValue
      else
        s.whenIdle <|
          (s.setSelectors first (es.map RawEntry.stored)).accept (clampedIf (es.any RawEntry.changed))
            (u8 first ++ (es.map RawEntry.stored).flatMap Selector.field)

/-- PROFILE_WRITE to COUNTERS (R166). -/
def execProfileWriteCounters (dt : Nat) (r : Req) (s : State) : Host.Outcome State Fault Refusal :=
  s.request dt 0x31 r ansWriteCounters

/-! ### PROFILE_WRITE to DOZE (R139) -/

/-- A write to DOZE at the Request Handler (R139, R171). -/
def ansWriteDoze (p : List Nat) (s : State) : Answer :=
  match p with
  | [a, delay] =>
    match flagOf a with
    | none => s.refuse .badValue
    | some auto =>
      let w : DozeSettings := { auto := auto, delay := delay }
      s.whenIdle <|
        ({ s with power := { s.power with cfg := w.clamp } }).accept (clampedIf (decide (w.clamp ≠ w))) w.clamp.field
  | _ => s.refuse .badLength

/-- PROFILE_WRITE to DOZE (R139). -/
def execProfileWriteDoze (dt : Nat) (r : Req) (s : State) : Host.Outcome State Fault Refusal :=
  s.request dt 0x31 r ansWriteDoze

/-! ### MOVE (R94) -/

/-- The list with a channel taken out and placed at position `q` (R94). -/
def moveTo (order : List Ch) (i : Ch) (q : Nat) : List Ch :=
  let others := order.filter fun j => decide (j ≠ i)
  others.take (q - 1) ++ i :: others.drop (q - 1)

/-- The order changes, and the Sequencer reconsiders on a change (R94, R95, R117). -/
def State.setOrder (s : State) (order : List Ch) : State :=
  if order = s.seq.order then s else { s with seq := { s.seq with order := order } }.resolve

/-- MOVE at the Request Handler: the reply carries the channel, its stored position and the list (R94). -/
def ansMove (p : List Nat) (s : State) : Answer :=
  match p with
  | [k, q] =>
    match channelOf k with
    | none => s.refuse .badChannel
    | some i =>
      let stored := clampNat 1 24 q
      let t := s.setOrder (moveTo s.seq.order i stored)
      s.whenIdle <|
        t.accept (clampedIf (decide (stored ≠ q)))
          (u8 k ++ u8 stored ++ t.seq.order.flatMap fun j => u8 (channelNo j))
  | _ => s.refuse .badLength

/-- MOVE (R94). -/
def execMove (dt : Nat) (r : Req) (s : State) : Host.Outcome State Fault Refusal := s.request dt 0x32 r ansMove

/-! ### SAVE (R173) -/

/-- A save starts: the sections are gathered, the erase is counted and the image is invalid (R173). -/
def State.startSave (s : State) : State :=
  { s with store := { s.store with image := none, eraseCount := s.store.eraseCount + 1, saving := some s.gather } }

/-- SAVE at the Request Handler (R173). -/
def ansSave (p : List Nat) (s : State) : Answer :=
  match p with
  | [] => s.whenIdle <| if Config.eraseMax ≤ s.store.eraseCount then s.refuse .worn else s.startSave.accept .ok []
  | _ => s.refuse .badLength

/-- SAVE (R173). -/
def execSave (dt : Nat) (r : Req) (s : State) : Host.Outcome State Fault Refusal := s.request dt 0x33 r ansSave

/-! ### LOAD_DEFAULTS (R175) -/

/-- Every owner but the Sequencer's steps and the outputs takes its section of `p` as if it had been written, all at
one moment (R175). -/
def State.takeProfile (s : State) (p : Profile) : State :=
  let t := s.writeLoads fun i => p.loads[i]
  { t with
    est := (t.est.setBattery p.battery).setCurve p.curve
    tiers := t.tiers.writeAll p.tiers s.sourcePresent
    seq := { t.seq with order := p.order, cfg := p.sequence }
    notices := t.notices.setMask p.masks
    tally := Vector.ofFn fun k => { t.tally[k] with sel := p.counters[k] }
    power := { t.power with cfg := p.doze } }

/-- LOAD_DEFAULTS at the Request Handler: the Sequencer reconsiders once on the whole change, and the outputs are then
derived (R175). -/
def ansLoadDefaults (p : List Nat) (s : State) : Answer :=
  match p with
  | [] => s.whenInstaller <| (s.takeProfile factoryProfile).resolve.accept .ok []
  | _ => s.refuse .badLength

/-- LOAD_DEFAULTS (R175). -/
def execLoadDefaults (dt : Nat) (r : Req) (s : State) : Host.Outcome State Fault Refusal :=
  s.request dt 0x34 r ansLoadDefaults

/-! ### SET_CHARGE (R38) -/

/-- Q is set, unless the Estimator is in START; the reply carries Q and the reserve (R38). -/
def State.setCharge (s : State) (q : Nat) (clamped : Bool) : Answer :=
  s.whenInstaller <|
    if s.est.st = .start then s.refuse .notApplicable
    else
      let e := s.est.setCharge q
      ({ s with est := e }).accept (clampedIf clamped) (u32 e.q ++ u16 e.reserve)

/-- SET_CHARGE with selector RESERVE at the Request Handler; the payload is the value of two characters (R38). -/
def ansSetChargeReserve (p : List Nat) (s : State) : Answer :=
  match p with
  | [hi, lo] =>
    let value := clampNat 0 1000 (be16 hi lo)
    s.setCharge (value * s.est.battery.full / 1000) (decide (value ≠ be16 hi lo))
  | _ => s.refuse .badLength

/-- SET_CHARGE with selector RESERVE (R38). -/
def execSetChargeReserve (dt : Nat) (r : Req) (s : State) : Host.Outcome State Fault Refusal :=
  s.request dt 0x35 r ansSetChargeReserve

/-- SET_CHARGE with selector FULL at the Request Handler; the value is ignored (R38). -/
def ansSetChargeFull (p : List Nat) (s : State) : Answer :=
  match p with
  | [_, _] => s.setCharge s.est.battery.full false
  | _ => s.refuse .badLength

/-- SET_CHARGE with selector FULL (R38). -/
def execSetChargeFull (dt : Nat) (r : Req) (s : State) : Host.Outcome State Fault Refusal :=
  s.request dt 0x35 r ansSetChargeFull

end Sys2Proof.Machine
end

