-- ==== Sys2Proof/Machine/PowerRequests.lean ====
section
/-! DEFINITION. PowerRequests: DOZE and RESTART, and the Request Handler's choice by KIND. -/

namespace Sys2Proof.Machine

/-- The one character of the reply to DOZE: 1 in DOZE and 0 in RUN, as the request leaves the part (R138). -/
def State.dozeField (s : State) : List Byte := u8 (bitIf (decide (s.power.st = .doze)) 1)

/-- DOZE at the Request Handler: refused with BUSY while a save is in progress, refused with NOT_APPLICABLE while a force
exists, and otherwise the part enters DOZE. The reply of the owner's own judgement carries the power state, accepted or
refused (R138, R156; notes/assumptions/16.md). -/
def ansDoze (p : List Nat) (s : State) : Answer :=
  match p with
  | [] => s.whenIdle <| if s.anyForce then s.accept .notApplicable s.dozeField else s.enterDoze.accept .ok s.enterDoze.dozeField
  | _ => s.refuse .badLength

/-- DOZE (R138). -/
def execDoze (dt : Nat) (r : Req) (s : State) : Host.Outcome State Fault Refusal := s.request dt 0x40 r ansDoze

/-- RESTART at the Request Handler; `State.handle` brings the warm reset (R143). -/
def ansRestart (p : List Nat) (s : State) : Answer :=
  match p with
  | [] => s.accept .ok []
  | _ => s.refuse .badLength

/-- RESTART (R143). -/
def execRestart (dt : Nat) (r : Req) (s : State) : Host.Outcome State Fault Refusal := s.request dt 0x41 r ansRestart

/-- PROFILE_WRITE at the Request Handler: the section, and then the owner's rule; a write to ORDER and any other section
is refused (R93, R171). -/
def ansProfileWrite (p : List Nat) (s : State) : Answer :=
  match p with
  | [] => s.refuse .badLength
  | sec :: fields =>
    match sec with
    | 1 => ansWriteBattery fields s
    | 2 => ansWriteTiers fields s
    | 3 => ansWriteLoads fields s
    | 5 => ansWriteCurve fields s
    | 6 => ansWriteSequence fields s
    | 7 => ansWriteNotice fields s
    | 8 => ansWriteCounters fields s
    | 9 => ansWriteDoze fields s
    | _ => s.refuse .badValue

/-- SET_CHARGE at the Request Handler: the length, and then the selector (R38). -/
def ansSetCharge (p : List Nat) (s : State) : Answer :=
  match p with
  | [sel, hi, lo] =>
    match sel with
    | 0 => ansSetChargeReserve [hi, lo] s
    | 1 => ansSetChargeFull [hi, lo] s
    | _ => s.refuse .badValue
  | _ => s.refuse .badLength

/-- The Request Handler: a KIND that R157 does not list is refused with BAD_KIND, and every other KIND goes to its
owner (R156, R157). -/
def answerKind (kind : Nat) (p : List Nat) (s : State) : Answer :=
  match kind with
  | 0x01 => ansIdent p s
  | 0x02 => ansStatus p s
  | 0x03 => ansLoadStatus p s
  | 0x04 => ansLinkStatus p s
  | 0x05 => ansCountersRead p s
  | 0x06 => ansMeasure p s
  | 0x10 => ansSwitch p s
  | 0x11 => ansHold p s
  | 0x12 => ansReleaseHold p s
  | 0x13 => ansForce p s
  | 0x14 => ansClearTrip p s
  | 0x15 => ansClearUsage p s
  | 0x20 => ansAck p s
  | 0x21 => ansMask p s
  | 0x22 => ansCountersClear p s
  | 0x23 => ansClearLinkCounts p s
  | 0x30 => ansProfileRead p s
  | 0x31 => ansProfileWrite p s
  | 0x32 => ansMove p s
  | 0x33 => ansSave p s
  | 0x34 => ansLoadDefaults p s
  | 0x35 => ansSetCharge p s
  | 0x40 => ansDoze p s
  | 0x41 => ansRestart p s
  | _ => s.refuse .badKind

end Sys2Proof.Machine
end

