-- ==== Sys2Proof/Machine/Receiving.lean ====
section
/-! DEFINITION. Receiving: START_BIT, CHARACTER_TAKEN, BREAK, GAP, REPLY_START, REPLY_END and LINK_QUIET. -/

namespace Sys2Proof.Machine

/-! ### Samples (R147) -/

/-- The value of a bit, on which at least two of its three samples agree; `true` for mark (R147). -/
def majority (b : Sample3) : Bool := (b.s7 && b.s8) || (b.s7 && b.s9) || (b.s8 && b.s9)

/-- The three samples of a bit disagree (R147). -/
def disagrees (b : Sample3) : Bool := !(b.s7 == b.s8 && b.s8 == b.s9)

/-- The data of a character, its first data bit the least significant (R147). -/
def charData (c : CharSamples) : Nat :=
  (List.finRange 8).foldl (fun n k => n + bitIf (majority c.data[k]) (2 ^ k.val)) 0

/-- Some bit of the character after its start bit was noisy (R147). -/
def noisy (c : CharSamples) : Bool := c.data.toList.any disagrees || disagrees c.mark || disagrees c.stop

/-- The link changes. -/
def State.onLink (s : State) (f : Link → Link) : State := { s with link := f s.link }

/-- The link counts change. -/
def Link.count (l : Link) (f : LinkCounts → LinkCounts) : Link := { l with counts := f l.counts }

/-! ### START_BIT (R141, R147, R154) -/

/-- The moment at which the character that a fall began is taken: the middle of its stop bit (R147). -/
def State.takenAt (s : State) (fall : Nat) : Nat := fall + 10 * s.power.bitTime + s.power.bitTime / 2

/-- A fall drops the reply in preparation and counts DROPPED (R154). -/
def State.dropReply (s : State) : State :=
  if s.link.reply.isSome then
    s.onLink fun l => { l.count (fun c => { c with dropped := bump c.dropped }) with reply := none }
  else s

/-- The moment at which the start bit that a fall began has been read: the 9th of its 16 samples
(R147; notes/assumptions/13.md). -/
def State.readAt (s : State) (fall : Nat) : Nat := fall + 9 * (s.power.bitTime / 16)

/-- A fall begins a character when its start bit reads space, which stops the gap timer. When it reads mark the fall is a
false start: it begins none, and the receiver looks for the next fall once the start bit has been read (R147, R152). -/
def State.beginChar (s : State) (start : Sample3) : State :=
  if majority start then
    s.onLink fun l =>
      { l with charFall := none, charNoise := false, spaceFall := none, falseEnd := some (s.readAt s.now) }
  else
    s.onLink fun l =>
      { l with charFall := some s.now, charNoise := disagrees start, spaceFall := none, falseEnd := none, gapEnd := none }

/-- The receiver is reading: the start bit of a false start, or the bits of the character in reception. A fall of the line
then begins nothing (R147). -/
def State.reading (s : State) : Bool :=
  s.link.charFall.any (fun f => decide (s.now < s.takenAt f)) || s.link.falseEnd.any (fun e => decide (s.now < e))

/-- A fall of the line outside a character, while the receiver is in WAIT or COLLECT: it drops a reply in preparation,
and the warm reset of a RESTART begins at that drop (R143); it ends DOZE (R141); and it begins a character. -/
def State.fall (s : State) (start : Sample3) : State :=
  if s.link.reply.any Reply.thenReset then s.dropReply.resetBy .request
  else (s.dropReply.exitDoze).beginChar start

/-- START_BIT (R147): falls within the character in reception, or within the start bit of a false start, begin nothing. -/
def execStartBit (dt : Nat) (start : Sample3) (s : State) : Host.Outcome State Fault Refusal :=
  s.event dt fun s =>
    if s.link.rx = .send ∨ s.reading then s else s.fall start

/-! ### CHARACTER_TAKEN (R148 to R153, R156) -/

/-- The frame in collection is abandoned: the buffer is emptied and the receiver waits (R152). -/
def Link.abandon (l : Link) : Link := { l with rx := .wait, buffer := [], gapEnd := none }

/-- An address character in WAIT: one that names this unit or is broadcast begins a frame, and the gap timer starts at
the end of its stop bit (R149, R152). -/
def State.address (s : State) (a : Nat) : State :=
  if a = 0 ∨ a = s.power.unitAddress then
    s.onLink fun l =>
      { l with
        rx := .collect, buffer := [BitVec.ofNat 8 a]
        gapEnd := some (s.now + s.power.bitTime / 2 + 33 * s.power.bitTime) }
  else s

/-- A complete frame whose CRC matches: its request is handed over (R153, R156). The buffer holds the address, LEN,
KIND, TAG, the payload and the two CRC characters. -/
def State.acceptFrame (s : State) (frame : List Byte) : State :=
  match frame with
  | a :: _ :: kind :: tag :: rest =>
    s.handle kind.toNat { bcast := decide (a = 0), tag := tag, payload := rest.take (rest.length - 2) }
      (answerKind kind.toNat)
  | _ => s

/-- The CRC formed over the frame matches its last two characters (R151, R152). -/
def crcMatches (frame : List Byte) : Bool :=
  let body := frame.take (frame.length - 2)
  decide (frame.drop (frame.length - 2) = u16 (crc16 body).toNat)

/-- A data character in COLLECT joins the buffer; LEN is judged as the second character, and a frame of LEN + 4
characters is complete (R149, R150, R152, R153). -/
def State.data (s : State) (d : Nat) : State :=
  let buffer := s.link.buffer ++ [BitVec.ofNat 8 d]
  let len := (buffer[1]?.map BitVec.toNat).getD 0
  if buffer.length = 2 ∧ (len < 2 ∨ 58 < len) then
    s.onLink fun l => (l.count fun c => { c with length := bump c.length }).abandon
  else if buffer.length = len + 4 then
    if crcMatches buffer then s.acceptFrame buffer
    else s.onLink fun l => (l.count fun c => { c with crc := bump c.crc }).abandon
  else
    s.onLink fun l =>
      { l with buffer := buffer, gapEnd := some (s.now + s.power.bitTime / 2 + 33 * s.power.bitTime) }

/-- A character whose stop bit reads mark, by the receiver state (R149). -/
def State.character (s : State) (isAddress : Bool) (d : Nat) : State :=
  match s.link.rx with
  | .wait => if isAddress then s.address d else s
  | .collect =>
    if isAddress then
      State.address (s.onLink fun l => (l.count fun c => { c with short := bump c.short }).abandon) d
    else s.data d
  | .send => s

/-- The character in reception ends: NOISE is counted once for it when any of its bits was noisy (R147); a stop bit at
space counts FRAMING, discards it and abandons a frame in collection (R148); and otherwise it is taken (R149). The spec names
no order between NOISE and what the character brings; the model counts NOISE first, so that the request of a frame whose last
character is noisy finds it counted (notes/assumptions/27.md). -/
def State.takeChar (s : State) (fall : Nat) (c : CharSamples) : State :=
  let noise := s.link.charNoise || noisy c
  let t := s.onLink fun l =>
    { l.count (fun k => if noise then { k with noise := bump k.noise } else k) with
      charFall := none, charNoise := false }
  if majority c.stop then t.character (majority c.mark) (charData c)
  else
    t.onLink fun l =>
      { (l.count fun k => { k with framing := bump k.framing }).abandon with spaceFall := some fall }

/-- CHARACTER_TAKEN (R149): a character is in reception, and the middle of its stop bit has been reached. -/
def execCharacterTaken (dt : Nat) (c : CharSamples) (s : State) : Host.Outcome State Fault Refusal :=
  s.event dt fun s =>
    match s.link.charFall with
    | some fall => if s.link.rx ≠ .send ∧ s.takenAt fall ≤ s.now then s.takeChar fall c else s
    | none => s

/-! ### BREAK and GAP (R148, R152) -/

/-- BREAK (R148): the line has stood at space for 22 bit times from the fall of a character whose stop bit read space;
it is counted once. -/
def execBreakHeld (dt : Nat) (s : State) : Host.Outcome State Fault Refusal :=
  s.event dt fun s =>
    if reached s.now (s.link.spaceFall.map (· + 22 * s.power.bitTime)) then
      s.onLink fun l => { (l.count fun c => { c with brk := bump c.brk }).abandon with spaceFall := none }
    else s

/-- GAP (R152): the gap timer has reached 33 bit times in COLLECT. -/
def execGap (dt : Nat) (s : State) : Host.Outcome State Fault Refusal :=
  s.event dt fun s =>
    if s.link.rx = .collect ∧ reached s.now s.link.gapEnd then
      s.onLink fun l => (l.count fun c => { c with gap := bump c.gap }).abandon
    else s

/-! ### REPLY_START and REPLY_END (R150, R151, R154) -/

/-- The data of the characters of a reply frame, its CRC last (R150, R151, R156). -/
def Reply.frame (unit : Nat) (r : Reply) : List Byte :=
  let body := u8 (0x80 + unit) ++ u8 (3 + r.payload.length) ++ u8 r.kind ++ [r.tag] ++ u8 r.status.code ++ r.payload
  body ++ u16 (crc16 body).toNat

/-- A frame as characters of the line: the first has its mark bit set, and every other has it clear (R147, R150). -/
def lineChars : List Byte → List LineChar
  | [] => []
  | a :: rest => ⟨true, a⟩ :: rest.map fun d => ⟨false, d⟩

/-- The eleven levels of a character on the line, `true` for mark: the start bit at space, the data with the least
significant bit first, the mark bit, and the stop bit at mark (R147). -/
def LineChar.levels (c : LineChar) : List Bool :=
  false :: ((List.finRange 8).map fun k : Fin 8 => c.data[k]) ++ [c.mark, true]

/-- The levels of the bits of a reply going out, its characters back to back (R147, R154). -/
def Sending.levels (x : Sending) : List Bool := x.chars.flatMap LineChar.levels

/-- LTX: the level of the bit that goes out at this moment, and mark while nothing goes out (R147, R154). -/
def State.ltx (s : State) : Bool :=
  match s.link.sending with
  | some x => (x.levels[(s.now - x.began) / s.power.bitTime]?).getD true
  | none => true

/-- REPLY_START (R154): the earliest start of the reply in preparation has been reached. -/
def execReplyStart (dt : Nat) (s : State) : Host.Outcome State Fault Refusal :=
  s.event dt fun s =>
    match s.link.reply with
    | some r =>
      if s.link.rx ≠ .send ∧ r.earliest ≤ s.now then
        let cs := lineChars (r.frame s.power.unitAddress)
        s.onLink fun l =>
          { l.abandon with
            rx := .send, reply := none, charFall := none, charNoise := false
            sending := some
              { chars := cs, began := s.now, done := s.now + 11 * cs.length * s.power.bitTime, thenReset := r.thenReset } }
      else s
    | none => s

/-- LDE is high exactly while the part transmits (R154). -/
def State.lde (s : State) : Bool := decide (s.link.rx = .send)

/-- REPLY_END (R154): the reply's last stop bit has ended; the warm reset of an addressed RESTART begins (R143). -/
def execReplyEnd (dt : Nat) (s : State) : Host.Outcome State Fault Refusal :=
  s.event dt fun s =>
    match s.link.sending with
    | some tx =>
      if s.link.rx = .send ∧ tx.done ≤ s.now then
        let t := s.onLink fun l => { l with rx := .wait, sending := none }
        if tx.thenReset then t.resetBy .request else t
      else s
    | none => s

/-! ### LINK_QUIET (R132, R153) -/

/-- LINK_QUIET (R132): the link-quiet timer has reached 5 s, which is handed over once for each quiet period (R153). -/
def execLinkQuiet (dt : Nat) (s : State) : Host.Outcome State Fault Refusal :=
  s.event dt fun s =>
    if !s.link.quietHanded ∧ Config.quietLimit ≤ s.quietFor then
      State.lapse (s.onLink fun l => { l with quietHanded := true })
    else s

end Sys2Proof.Machine
end

