-- ==== Sys2Proof/Machine/Scanning.lean ====
section
/-! DEFINITION. Scanning: SCAN_BEGIN and SCAN_COMPLETE. -/

namespace Sys2Proof.Machine

/-- SCAN_BEGIN (R2, R3, R4): the scan timer has expired and no scan is in flight. -/
def execScanBegin (dt : Nat) (s : State) : Host.Outcome State Fault Refusal :=
  s.event dt fun s =>
    if s.scanner.inFlight.isNone ∧ reached s.now s.scanner.timer then s.beginScan else s

/-! ### The parts of a completion -/

/-- The number of quantities in a plan (R1). -/
def Scan.quantities (f : Scan) : Nat := 2 + (channels.filter fun i => f.plan[i]).length

/-- The moment a scan completes: the end of the last slot of its plan (R1). -/
def Scan.ends (f : Scan) : Nat := f.start + f.quantities * Config.slotUnits

/-- The scanner's own part: the record is formed, and a change of the sense fault reaches the Tally Counters and the
Notice Unit (R12, R13, R14). -/
def State.scanned (s : State) (f : Scan) (smp : Samples) : State :=
  let sc := (s.scanner.complete f smp).1
  { s with
    scanner := sc
    notices := s.notices.level .sense s.scanner.senseFault sc.senseFault }.reportIf .senseFaultEntry
      (!s.scanner.senseFault && sc.senseFault)

/-- The Sequencer's part of a change of the sense fault: it reconsiders (R117, R119). -/
def State.onFault (s : State) (changed : Bool) : State := if changed then s.resolve else s

/-- An estimate update at the Tier Monitor: every record is evaluated, and the entries and releases are reported (R47,
R61, R62). The flag says that Power Control is told of an entry to PENDING or to ACTIVE (R60). -/
def State.evaluateTiers (s : State) (rcd : ScanRecord) : State × Bool :=
  let (tiers, moves) := s.tiers.evaluate s.est.compensated s.est.reserve (decide (rcd.power = .doze))
  let t := { s with tiers := tiers }
  let entered := ((List.finRange 5).filter fun k : Fin 5 => decide (k ≠ 4) && moves[k].active).map fun k => k.val + 1
  let changed := (List.finRange 5).any fun k : Fin 5 => decide (k ≠ 4) && (moves[k].active || moves[k].released)
  let n := (t.notices.edge .tier changed).level .cutoff s.cutoffCondition t.cutoffCondition
  (({ t with notices := n }.report .tierEntry entered).reportIf .cutoffEntry moves[4].active,
    (List.finRange 5).any fun k : Fin 5 => moves[k].pending || moves[k].active)

/-- The Estimator, the Tier Monitor and what they hand to the Sequencer (R17, R27, R47, R59, R113). The flag says that
Power Control is told of an entry (R60). -/
def State.estimated (s : State) (rcd : ScanRecord) : State × Bool :=
  let o := s.est.complete rcd
  let t := { s with
    est := o.est
    seq := if o.first then { s.seq with settleStart := some s.now } else s.seq }
  let u := (t.reportIf .restCorrection o.restEvent).reportIf .fullResync o.fullEvent
  if o.update then
    let (v, told) := u.evaluateTiers rcd
    (if o.first || s.tiers.handsOver v.tiers then v.resolve else v, told)
  else (u, false)

/-- The Channel Controller: every channel is treated, the trips are reported, and a trip's rest lock reaches the
Sequencer (R80, R81, R87, R88, R117). The flag says that Power Control is told of an overcurrent (R86). -/
def State.controlled (s : State) (rcd : ScanRecord) : State × Bool :=
  let r : Vector Treated 24 := Vector.ofFn fun i => s.chans[i].treat s.now rcd.currents[i] rcd.power.factor
  let t := { s with chans := Vector.ofFn fun i => r[i].chan }
  let trips := channels.any fun i => r[i].tripped
  let n := (t.notices.edge .trip trips).level .latch s.latchCondition t.latchCondition
  let u := (({ t with notices := n }.report .trip (channelNos fun i => r[i].tripped)).report .latch
    (channelNos fun i => r[i].latched)).report .openLoad (channelNos fun i => r[i].opened)
  (if trips then u.resolve else u, decide (rcd.power = .doze) && channels.any fun i => r[i].above)

/-- The auto-doze test (R140). -/
def State.dozeTest (s : State) : State := if s.autoDozeDue then s.enterDoze else s

/-- The blocks take the record in one of the orders that the spec leaves open (R14, R119, R140). A cause of exit that the
completion has found ends DOZE when the part is in DOZE as the cause is taken, and in RUN it has no effect, so it meets an
auto-doze entry only of a test made before it (R60, R141; notes/assumptions/3.md). When the scan timer stands stopped, the
scan that an exit put off begins (R6). Whether its beginning or an output change of the same completion is taken first is left
open (R2); the model takes the beginning last, so that its plan sees every such change (notes/assumptions/28.md). -/
def State.consume (s : State) (rcd : ScanRecord) (faultChanged : Bool) (ord : CompletionOrder) : State :=
  let s1 := if ord.testFirst then s.dozeTest else s
  let s2 := if ord.faultFirst then s1.onFault faultChanged else s1
  let (s3, told3) := if ord.controllerFirst then s2.controlled rcd else s2.estimated rcd
  let (s4, told4) := if ord.controllerFirst then s3.estimated rcd else s3.controlled rcd
  let s5 := if ord.faultFirst then s4 else s4.onFault faultChanged
  let s6 := if told3 || told4 then s5.exitDoze else s5
  let s7 := if ord.testFirst then s6 else s6.dozeTest
  if s7.scanner.timer.isNone && s7.scanner.inFlight.isNone then s7.beginScan else s7

/-- The completion of the scan `f` (R14). -/
def State.completeScan (s : State) (f : Scan) (smp : Samples) (ord : CompletionOrder) : State :=
  let rcd := (s.scanner.complete f smp).2
  (s.scanned f smp).consume rcd (s.scanner.senseFault != rcd.senseFault) ord

/-- SCAN_COMPLETE (R14): the last slot of the scan in flight has ended. -/
def execScanComplete (dt : Nat) (smp : Samples) (ord : CompletionOrder) (s : State) :
    Host.Outcome State Fault Refusal :=
  s.event dt fun s =>
    match s.scanner.inFlight with
    | some f => if f.ends ≤ s.now then s.completeScan f smp ord else s
    | none => s

end Sys2Proof.Machine
end

