-- ==== Sys2Proof/Machine/Inputs.lean ====
section
/-! DEFINITION. Inputs: RAW_INPUT_CHANGE and DEBOUNCED_CHANGE. -/

namespace Sys2Proof.Machine

/-- A discrete input by its name. -/
def Power.pin (p : Power) : Input → Pin
  | .shore => p.shore
  | .ign => p.ign
  | .install => p.install

/-- A discrete input replaced. -/
def Power.setPin (p : Power) (i : Input) (x : Pin) : Power :=
  match i with
  | .shore => { p with shore := x }
  | .ign => { p with ign := x }
  | .install => { p with install := x }

/-- The raw level changes: the debounce timer starts with 50 ms when the level comes to differ from the debounced
state, and stops when it returns to it (R135). A level that does not change starts nothing. -/
def Pin.raise (now : Nat) (low : Bool) (x : Pin) : Pin :=
  if low = x.raw then x
  else { x with raw := low, timer := if low = x.deb then none else some (now + Config.debounceUnits) }

/-- RAW_INPUT_CHANGE (R135); during a reset the level changes and no timer runs (R144). -/
def execRawInputChange (dt : Nat) (i : Input) (low : Bool) (s : State) : Host.Outcome State Fault Refusal :=
  let t := s.elapse dt
  let x := if t.inReset.isSome then { t.power.pin i with raw := low } else (t.power.pin i).raise t.now low
  .next { t with power := t.power.setPin i x }

/-- The debounced state takes the raw level, and the timer stops (R135). -/
def State.takeLevel (s : State) (i : Input) : State :=
  let x := s.power.pin i
  { s with power := s.power.setPin i { x with deb := x.raw, timer := none } }

/-- The Tier Monitor's and the Sequencer's part of a change of SHORE or IGN (R51, R52, R59). -/
def State.sourceChanged (s : State) : State :=
  let t := { s with tiers := s.tiers.suppression s.sourcePresent }
  if s.tiers.handsOver t.tiers then t.resolve else t

/-- A debounced change of SHORE or IGN: the INPUT notice, the suppression of tiers and the end of DOZE, the last two in
either order (R136). -/
def State.sourceInput (s : State) (exitFirst : Bool) : State :=
  let t := { s with notices := s.notices.edge .input true }
  if exitFirst then t.exitDoze.sourceChanged else t.sourceChanged.exitDoze

/-- A debounced change of INSTALL: a change to de-asserted makes a force lapse (R132, R136). -/
def State.installInput (s : State) : State := if s.power.install.deb then s else s.lapse

/-- DEBOUNCED_CHANGE (R135, R136): the debounce timer of the input has expired. -/
def execDebouncedChange (dt : Nat) (i : Input) (exitFirst : Bool) (s : State) : Host.Outcome State Fault Refusal :=
  s.event dt fun s =>
    if reached s.now (s.power.pin i).timer then
      match i with
      | .shore => (s.takeLevel i).sourceInput exitFirst
      | .ign => (s.takeLevel i).sourceInput exitFirst
      | .install => (s.takeLevel i).installInput
    else s

end Sys2Proof.Machine
end

