-- ==== Sys2Proof/Machine/Resets.lean ====
section
/-! DEFINITION. Resets: POWER_ON, SUPPLY_LOW, RSTN and RESET_END. -/

namespace Sys2Proof.Machine

/-- POWER_ON (R142). -/
def execPowerOn (dt : Nat) (s : State) : Host.Outcome State Fault Refusal := .next ((s.elapse dt).resetBy .powerOn)

/-- SUPPLY_LOW (R142). -/
def execSupplyLow (dt : Nat) (s : State) : Host.Outcome State Fault Refusal := .next ((s.elapse dt).resetBy .supply)

/-- RSTN (R142). -/
def execRstn (dt : Nat) (s : State) : Host.Outcome State Fault Refusal := .next ((s.elapse dt).resetBy .pin)

/-! ### The profile load (R176) -/

/-- An order that holds each of the 24 channels exactly once (R93). -/
def isOrder (l : List Ch) : Bool := channels.all fun i => decide (l.count i = 1)

/-- The sections as their owners take them: each field outside its range is clamped, and an ORDER that is no permutation
is replaced by the factory order (R176). -/
def Profile.taken (p : Profile) : Profile :=
  { battery := p.battery.clamp
    tiers := Vector.ofFn fun k =>
      if k = 4 then TierSettings.clamp { p.tiers[k] with measure := .voltage, suppress := false } else p.tiers[k].clamp
    loads := Vector.ofFn fun i => p.loads[i].clamp
    order := if isOrder p.order then p.order else factoryProfile.order
    curve := Vector.ofFn fun k => p.curve[k].clamp
    sequence := p.sequence.clamp
    masks := p.masks
    counters := Vector.ofFn fun k => p.counters[k].clamp
    doze := p.doze.clamp }

/-- The check of the image: it is valid, its format number is 1, and its CRC formed again matches (R176). -/
def Store.loadable (st : Store) : Option Profile :=
  match st.image with
  | some im => if im.format = Config.imageFormat ∧ imageCrc im.format im.sections = im.crc then some im.sections else none
  | none => none

/-! ### The end of a reset (R146) -/

/-- The Estimator at the end of a reset (R41, R42). -/
def Estimator.afterReset (e : Estimator) (cold : Bool) (p : Profile) : Estimator :=
  let q := if cold then 0
    else if p.battery.capacity = e.battery.capacity then e.q
    else e.q * p.battery.full / e.battery.full
  { st := .start
    seedPending := cold || e.seedPending
    window := []
    averaged := 0
    compensated := 0
    q := q
    reserve := reserveOf p.battery.full q
    unconfirmed := cold || e.unconfirmed
    restTimer := 0
    fullTimer := 0
    fullLatched := false
    curve := p.curve
    curveValid := curveIsValid p.curve
    battery := p.battery }

/-- A channel at the end of a reset, with its start-up mark (R91, R112): the start demand after a cold reset and the
demand kept after a warm one, for a fitted channel. -/
def Chan.afterReset (c : Chan) (cold : Bool) (cfg : LoadSettings) : Chan :=
  let demand := cfg.fitted && if cold then cfg.startDemand else c.demand
  let marked := demand && decide (cfg.cls ≠ .exempt)
  { Chan.fresh cfg with
    demand := demand
    usage := if cold then 0 else c.usage
    lastOff := if marked then ⟨.reset, 0⟩ else ⟨.none, 0⟩
    mark := if marked then some ⟨.reset, 0⟩ else none }

/-- Step 1 of R146: the straps, the reset cause, and the three debounced states from the input levels. -/
def Power.afterReset (p : Power) (now : Nat) (r : ResetInfo) (adr : BitVec 4) (br : BitVec 2) (cfg : DozeSettings) :
    Power :=
  { st := .run
    lastExit := now
    shore := { p.shore with deb := p.shore.raw, timer := none }
    ign := { p.ign with deb := p.ign.raw, timer := none }
    install := { p.install with deb := p.install.raw, timer := none }
    cause := r.cause
    adr := adr
    br := br
    cfg := cfg }

/-- The scanner at the end of a reset (R16). -/
def Scanner.fresh : Scanner :=
  { record := none, number := 0, lastV := none, lastI := none, vRun := 0, iRun := 0, senseFault := false,
    inFlight := none, timer := none }

/-- The part at the end of a reset, before the first derivation: steps 1 to 3 of R146 with the profile `p`. -/
def State.restored (s : State) (r : ResetInfo) (p : Profile) (source : ProfileSource) (adr : BitVec 4) (br : BitVec 2) :
    State :=
  let power := s.power.afterReset s.now r adr br p.doze
  { s with
    inReset := none
    scanner := Scanner.fresh
    est := s.est.afterReset r.cold p
    tiers := TierMonitor.fresh p.tiers (power.shore.deb || power.ign.deb)
    chans := Vector.ofFn fun i => s.chans[i].afterReset r.cold p.loads[i]
    seq := { order := p.order, st := .settle, lastStep := none, settleStart := none, cfg := p.sequence }
    holds := []
    power := power
    link := Link.cleared s.now
    notices := { latch := 0, ackMark := 0, mask := p.masks, alertn := false }
    tally := Vector.ofFn fun k => { sel := p.counters[k], value := if r.cold then 0 else s.tally[k].value }
    store := { s.store with saving := none, outcome := .none, source := source } }.reportIf .forceLapse r.foundForce

/-- Steps 4 to 6 of R146: the first derivation, the first scan, and the RESTART and STORE notices. -/
def State.started (s : State) (source : ProfileSource) : State :=
  let t := s.derive.beginScan
  { t with notices := (t.notices.edge .restart true).edge .store (decide (source = .factory)) }

/-- The reset ends: the profile is loaded from the image or, when its check fails, from the factory profile, and the
part takes up its working state in the order of R146. -/
def State.endReset (s : State) (r : ResetInfo) (adr : BitVec 4) (br : BitVec 2) : State :=
  match s.store.loadable with
  | some p => (s.restored r p.taken .store adr br).started .store
  | none => (s.restored r factoryProfile .factory adr br).started .factory

/-- RESET_END (R146): no source holds the reset in progress any longer. -/
def execResetEnd (dt : Nat) (adr : BitVec 4) (br : BitVec 2) (s : State) : Host.Outcome State Fault Refusal :=
  let t := s.elapse dt
  match t.inReset with
  | some r => .next (t.endReset r adr br)
  | none => .next t

end Sys2Proof.Machine
end

