-- ==== Sys2Proof/Machine/Timers.lean ====
section
/-! DEFINITION. Timers: the expiries of the channels' timers and locks, of the spacings, of a hold, and the end of a
save. An expiry occurs at its moment or later; commanded before it, or after its timer was stopped or started anew, it
does not occur and changes nothing (R85, R124, R125; notes/assumptions/5.md). -/

namespace Sys2Proof.Machine

/-- RETRY_EXPIRY (R82): the channel goes from TRIP_WAIT to NORMAL, with retries used kept, and its output is derived. -/
def execRetryExpiry (dt : Nat) (ch : Ch) (s : State) : Host.Outcome State Fault Refusal :=
  s.event dt fun s =>
    if s.chans[ch].prot = .tripWait ∧ reached s.now s.chans[ch].retryEnd then
      (s.setChan ch s.chans[ch].toNormal).resolveOutputs
    else s

/-- GOOD_RUN (R83): the good-run timer has reached 60 s; retries used becomes 0 and the timer stops. -/
def execGoodRun (dt : Nat) (ch : Ch) (s : State) : Host.Outcome State Fault Refusal :=
  s.event dt fun s =>
    if reached s.now (s.chans[ch].goodRun.map (· + Config.goodRunUnits)) then
      s.setChan ch { s.chans[ch] with retries := 0, goodRun := none }
    else s

/-- RUN_LOCK_EXPIRY (R74): the run lock passes, and the Sequencer reconsiders. -/
def execRunLockExpiry (dt : Nat) (ch : Ch) (s : State) : Host.Outcome State Fault Refusal :=
  s.event dt fun s =>
    if reached s.now s.chans[ch].runLock then (s.setChan ch { s.chans[ch] with runLock := none }).resolve else s

/-- REST_LOCK_EXPIRY (R74): the rest lock passes, the output is derived again, and the Sequencer reconsiders. -/
def execRestLockExpiry (dt : Nat) (ch : Ch) (s : State) : Host.Outcome State Fault Refusal :=
  s.event dt fun s =>
    if reached s.now s.chans[ch].restLock then
      (s.setChan ch { s.chans[ch] with restLock := none }).derive.resolve
    else s

/-- BLANKING_END (R75): the blanking timer of a channel runs out. -/
def execBlankingEnd (dt : Nat) (ch : Ch) (s : State) : Host.Outcome State Fault Refusal :=
  s.event dt fun s =>
    if reached s.now s.chans[ch].blankEnd then s.setChan ch { s.chans[ch] with blankEnd := none } else s

/-- SHED_SPACING_END (R101): the shed spacing has passed since the last step time, and the Sequencer reconsiders. -/
def execShedSpacingEnd (dt : Nat) (s : State) : Host.Outcome State Fault Refusal :=
  s.event dt fun s =>
    if s.seq.lastStep.isSome ∧ s.spacingPassed s.seq.cfg.shedSpacing then s.resolve else s

/-- RESTORE_SPACING_END (R101): the restore spacing has passed since the last step time, and the Sequencer
reconsiders. -/
def execRestoreSpacingEnd (dt : Nat) (s : State) : Host.Outcome State Fault Refusal :=
  s.event dt fun s =>
    if s.seq.lastStep.isSome ∧ s.spacingPassed s.seq.cfg.restoreSpacing then s.resolve else s

/-- SETTLE_TIME_END (R113): the settle time has passed since the settle start, SETTLE has not ended, and the Sequencer
reconsiders. -/
def execSettleTimeEnd (dt : Nat) (s : State) : Host.Outcome State Fault Refusal :=
  s.event dt fun s => if s.seq.st = .settle ∧ s.settlePassed then s.resolve else s

/-- The hold entry of a channel has reached its expiry moment (R124). -/
def State.holdDue (s : State) (ch : Ch) : Bool := s.holds.any fun e => decide (e.ch = ch) && decide (e.expiry ≤ s.now)

/-- HOLD_EXPIRY (R124): the entry is removed, HOLD_END is set, HOLD_EXPIRY is counted, and the Sequencer
reconsiders. -/
def execHoldExpiry (dt : Nat) (ch : Ch) (s : State) : Host.Outcome State Fault Refusal :=
  s.event dt fun s =>
    if s.holdDue ch then
      let t := s.dropHolds fun j => decide (j = ch)
      ({ t with notices := t.notices.edge .holdEnd true }.report .holdExpiry [channelNo ch]).resolve
    else s

/-- SAVE_END (R174): the read-back is complete; the image is valid when every character matches and stays invalid
otherwise, the outcome is recorded and STORE is set. -/
def execSaveEnd (dt : Nat) (good : Bool) (s : State) : Host.Outcome State Fault Refusal :=
  s.event dt fun s =>
    match s.store.saving with
    | some p =>
      { s with
        store :=
          { s.store with
            image := if good then
                some { format := Config.imageFormat, sections := p, crc := imageCrc Config.imageFormat p }
              else none
            saving := none
            outcome := if good then .done else .failed }
        notices := s.notices.edge .store true }
    | none => s

end Sys2Proof.Machine
end

