-- ==== Sys2Proof/Machine/Dispatch.lean ====
section
/-! DEFINITION. Dispatch: one arm per command. -/

namespace Sys2Proof.Machine

def exec (i : Instr) (s : State) : Host.Outcome State Fault Refusal :=
  match i with
  | .ident dt r => Sys2Proof.Machine.execIdent dt r s
  | .status dt r => Sys2Proof.Machine.execStatus dt r s
  | .loadStatus dt r => Sys2Proof.Machine.execLoadStatus dt r s
  | .linkStatus dt r => Sys2Proof.Machine.execLinkStatus dt r s
  | .countersRead dt r => Sys2Proof.Machine.execCountersRead dt r s
  | .measure dt r => Sys2Proof.Machine.execMeasure dt r s
  | .switch dt r => Sys2Proof.Machine.execSwitch dt r s
  | .hold dt r => Sys2Proof.Machine.execHold dt r s
  | .releaseHold dt r => Sys2Proof.Machine.execReleaseHold dt r s
  | .force dt r => Sys2Proof.Machine.execForce dt r s
  | .clearTrip dt r => Sys2Proof.Machine.execClearTrip dt r s
  | .clearUsage dt r => Sys2Proof.Machine.execClearUsage dt r s
  | .ack dt r => Sys2Proof.Machine.execAck dt r s
  | .mask dt r => Sys2Proof.Machine.execMask dt r s
  | .countersClear dt r => Sys2Proof.Machine.execCountersClear dt r s
  | .clearLinkCounts dt r => Sys2Proof.Machine.execClearLinkCounts dt r s
  | .profileRead dt r => Sys2Proof.Machine.execProfileRead dt r s
  | .profileWriteBattery dt r => Sys2Proof.Machine.execProfileWriteBattery dt r s
  | .profileWriteTiers dt r => Sys2Proof.Machine.execProfileWriteTiers dt r s
  | .profileWriteLoads dt r => Sys2Proof.Machine.execProfileWriteLoads dt r s
  | .profileWriteCurve dt r => Sys2Proof.Machine.execProfileWriteCurve dt r s
  | .profileWriteSequence dt r => Sys2Proof.Machine.execProfileWriteSequence dt r s
  | .profileWriteNotice dt r => Sys2Proof.Machine.execProfileWriteNotice dt r s
  | .profileWriteCounters dt r => Sys2Proof.Machine.execProfileWriteCounters dt r s
  | .profileWriteDoze dt r => Sys2Proof.Machine.execProfileWriteDoze dt r s
  | .move dt r => Sys2Proof.Machine.execMove dt r s
  | .save dt r => Sys2Proof.Machine.execSave dt r s
  | .loadDefaults dt r => Sys2Proof.Machine.execLoadDefaults dt r s
  | .setChargeReserve dt r => Sys2Proof.Machine.execSetChargeReserve dt r s
  | .setChargeFull dt r => Sys2Proof.Machine.execSetChargeFull dt r s
  | .doze dt r => Sys2Proof.Machine.execDoze dt r s
  | .restart dt r => Sys2Proof.Machine.execRestart dt r s
  | .startBit dt start => Sys2Proof.Machine.execStartBit dt start s
  | .characterTaken dt c => Sys2Proof.Machine.execCharacterTaken dt c s
  | .breakHeld dt => Sys2Proof.Machine.execBreakHeld dt s
  | .gap dt => Sys2Proof.Machine.execGap dt s
  | .replyStart dt => Sys2Proof.Machine.execReplyStart dt s
  | .replyEnd dt => Sys2Proof.Machine.execReplyEnd dt s
  | .linkQuiet dt => Sys2Proof.Machine.execLinkQuiet dt s
  | .scanBegin dt => Sys2Proof.Machine.execScanBegin dt s
  | .scanComplete dt smp ord => Sys2Proof.Machine.execScanComplete dt smp ord s
  | .rawInputChange dt pin low => Sys2Proof.Machine.execRawInputChange dt pin low s
  | .debouncedChange dt pin exitFirst => Sys2Proof.Machine.execDebouncedChange dt pin exitFirst s
  | .powerOn dt => Sys2Proof.Machine.execPowerOn dt s
  | .supplyLow dt => Sys2Proof.Machine.execSupplyLow dt s
  | .rstn dt => Sys2Proof.Machine.execRstn dt s
  | .resetEnd dt adr br => Sys2Proof.Machine.execResetEnd dt adr br s
  | .retryExpiry dt ch => Sys2Proof.Machine.execRetryExpiry dt ch s
  | .goodRun dt ch => Sys2Proof.Machine.execGoodRun dt ch s
  | .runLockExpiry dt ch => Sys2Proof.Machine.execRunLockExpiry dt ch s
  | .restLockExpiry dt ch => Sys2Proof.Machine.execRestLockExpiry dt ch s
  | .blankingEnd dt ch => Sys2Proof.Machine.execBlankingEnd dt ch s
  | .shedSpacingEnd dt => Sys2Proof.Machine.execShedSpacingEnd dt s
  | .restoreSpacingEnd dt => Sys2Proof.Machine.execRestoreSpacingEnd dt s
  | .settleTimeEnd dt => Sys2Proof.Machine.execSettleTimeEnd dt s
  | .holdExpiry dt ch => Sys2Proof.Machine.execHoldExpiry dt ch s
  | .saveEnd dt good => Sys2Proof.Machine.execSaveEnd dt good s

end Sys2Proof.Machine
end

