-- ==== Sys2Proof/Safety.lean ====
section
/-! DEFINITION. Safety: what a sound state of the part is, block by block. Each law is one of the book's statements about
every state of the part; `Obligations` claims that every step keeps it. -/

namespace Sys2Proof

/-- The time that a command says has passed since the command before it. -/
def Instr.dt : Instr → Nat
  | .ident dt _ | .status dt _ | .loadStatus dt _ | .linkStatus dt _ | .countersRead dt _ | .measure dt _
  | .switch dt _ | .hold dt _ | .releaseHold dt _ | .force dt _ | .clearTrip dt _ | .clearUsage dt _ | .ack dt _
  | .mask dt _ | .countersClear dt _ | .clearLinkCounts dt _ | .profileRead dt _ | .profileWriteBattery dt _
  | .profileWriteTiers dt _ | .profileWriteLoads dt _ | .profileWriteCurve dt _ | .profileWriteSequence dt _
  | .profileWriteNotice dt _ | .profileWriteCounters dt _ | .profileWriteDoze dt _ | .move dt _ | .save dt _
  | .loadDefaults dt _ | .setChargeReserve dt _ | .setChargeFull dt _ | .doze dt _ | .restart dt _
  | .startBit dt _ | .characterTaken dt _ | .breakHeld dt | .gap dt | .replyStart dt | .replyEnd dt | .linkQuiet dt
  | .scanBegin dt | .scanComplete dt _ _ | .rawInputChange dt _ _ | .debouncedChange dt _ _ | .powerOn dt
  | .supplyLow dt | .rstn dt | .resetEnd dt _ _ | .retryExpiry dt _ | .goodRun dt _ | .runLockExpiry dt _
  | .restLockExpiry dt _ | .blankingEnd dt _ | .shedSpacingEnd dt | .restoreSpacingEnd dt | .settleTimeEnd dt
  | .holdExpiry dt _ | .saveEnd dt _ => dt

end Sys2Proof

namespace Sys2Proof.Machine

/-! ### How a request is taken and answered -/

/-- A request reaches the Request Handler: no reset is in progress (R144), the part is not sending (R149), and no RESTART
waits for its reply (R143). -/
structure State.Hears (s : State) : Prop where
  awake : s.inReset = none
  receiving : s.link.rx ≠ .send
  staying : s.link.reply.any Reply.thenReset = false

/-- The part as the Request Handler finds it: the time has passed and the frame has been accepted (R153). -/
def State.taken (s : State) (dt : Nat) : State := (s.elapse dt).frameGood

/-- The part with the reply of a request in preparation (R154, R156). -/
def State.answered (s : State) (kind : Nat) (tag : Byte) (status : Status) (payload : List Byte) : State :=
  { s with
    link := { s.link with
      reply := some { kind := kind + 0x80, tag := tag, status := status, payload := payload,
                      earliest := s.now + 22 * s.power.bitTime + s.power.bitTime / 2, thenReset := false } } }

/-- The reply that a state holds in preparation answers a request so. -/
def State.Replies (s : State) (kind : Nat) (tag : Byte) (status : Status) (payload : List Byte) : Prop :=
  s.link.reply = some
    { kind := kind + 0x80, tag := tag, status := status, payload := payload,
      earliest := s.now + 22 * s.power.bitTime + s.power.bitTime / 2, thenReset := false }

/-- A channel keeps what no output or mark can change: its settings, demand, protection, retries, retry timer, usage and
force. -/
structure Chan.Keeps (c d : Chan) : Prop where
  cfg : d.cfg = c.cfg
  demand : d.demand = c.demand
  prot : d.prot = c.prot
  retries : d.retries = c.retries
  retryEnd : d.retryEnd = c.retryEnd
  usage : d.usage = c.usage
  force : d.force = c.force

/-- The components that a change of the loads, of the holds or of the forces leaves alone: the scanner, the Estimator, the
Tier Monitor, the order and the settings of the Sequencer, Power Control, the Notice Unit, the store and the selectors of the
tally counters, and any reset. -/
structure State.Spares (s t : State) : Prop where
  inReset : t.inReset = s.inReset
  scanner : t.scanner = s.scanner
  est : t.est = s.est
  tiers : t.tiers = s.tiers
  order : t.seq.order = s.seq.order
  sequence : t.seq.cfg = s.seq.cfg
  settleStart : t.seq.settleStart = s.seq.settleStart
  power : t.power = s.power
  notices : t.notices = s.notices
  store : t.store = s.store
  selectors : ∀ k : Fin 8, t.tally[k].sel = s.tally[k].sel
  pending : t.pending = s.pending

/-- The start of a reset, with the sources that have acted (R16, R91, R134, R144, R164, R174): every output goes low and
records nothing, every force is NONE, the scan in flight and a save are abandoned, no timer of the scanner or of an input
runs, the link is silent with its counts at 0, and the latches and marks are cleared with ALERTN released. All else stands
(notes/assumptions/26.md). -/
structure State.Halts (s t : State) (r : ResetInfo) : Prop where
  now : t.now = s.now
  inReset : t.inReset = some r
  outputs : ∀ i : Ch, t.chans[i] = { s.chans[i] with out := false, force := .none, onBefore := false }
  scanner : t.scanner = { s.scanner with inFlight := none, timer := none }
  power : t.power = { s.power with
    st := .run
    shore := { s.power.shore with timer := none }
    ign := { s.power.ign with timer := none }
    install := { s.power.install with timer := none } }
  link : t.link = ⟨.wait, [], none, none, false, none, none, s.now, false, none, none, ⟨0, 0, 0, 0, 0, 0, 0, 0, 0⟩⟩
  notices : t.notices = ⟨0, 0, s.notices.mask, false⟩
  store : t.store = { s.store with saving := none }
  others : t.est = s.est ∧ t.tiers = s.tiers ∧ t.seq = s.seq ∧ t.holds = s.holds ∧ t.tally = s.tally ∧
    t.pending = s.pending

/-! ### The laws -/

/-- The priority list holds each of the 24 channels exactly once (R93). -/
def State.OrderLaw (s : State) : Prop := ∀ i : Ch, s.seq.order.count i = 1

/-- One record of the Tier Monitor is sound: it is DISABLED exactly while its measure is OFF, SUPPRESSED exactly while
the conditions of R51 hold, its streak count lies in the range of its state (R48), and a record that calls for shedding
has a confirming value (R50). -/
structure TierRecord.Law (r : TierRecord) (source : Bool) : Prop where
  disabled : r.st = .disabled ↔ r.cfg.measure = .off
  suppressed : r.st = .suppressed ↔ r.cfg.measure ≠ .off ∧ r.cfg.suppress = true ∧ source = true
  running : r.st = .pending ∨ r.st = .releasing → 1 ≤ r.streak ∧ r.streak ≤ 254
  resting : ¬(r.st = .pending ∨ r.st = .releasing) → r.streak = 0
  confirmed : r.calls = true → r.conf.isSome = true
  counts : r.cfg.confirm ≤ 255 ∧ r.cfg.release ≤ 255

/-- The Tier Monitor is sound: its records are, the cutoff measures VOLTAGE with no suppress flag (R44), and the depth is
the one that the records give (R58). -/
structure State.TierLaw (s : State) : Prop where
  records : ∀ k : Fin 5, s.tiers.recs[k].Law s.sourcePresent
  cutoff : s.tiers.recs[4].cfg.measure = .voltage ∧ s.tiers.recs[4].cfg.suppress = false
  depth : s.tiers.depth = depthOf s.tiers.recs

/-- The Estimator is sound: Q and the reserve lie in their ranges and agree (R25), the compensated voltage lies in its
range (R24), the window holds at most eight samples (R22), and the curve's validity is that of its points (R32). -/
structure State.EstimateLaw (s : State) : Prop where
  capacity : 5 ≤ s.est.battery.capacity ∧ s.est.battery.capacity ≤ 1000
  charge : s.est.q ≤ s.est.battery.full
  reserve : s.est.reserve = reserveOf s.est.battery.full s.est.q
  compensated : s.est.compensated ≤ 32767
  window : s.est.window.length ≤ 8
  points : ∀ k : Fin 16, s.est.curve[k].reserve ≤ 1000
  validity : s.est.curveValid = curveIsValid s.est.curve

/-- A marked channel is fitted, has demand ON and is not EXEMPT (R97, R98). -/
def State.MarkLaw (s : State) : Prop :=
  ∀ i : Ch, s.chans[i].mark.isSome = true →
    s.chans[i].cfg.fitted = true ∧ s.chans[i].demand = true ∧ s.chans[i].cfg.cls ≠ .exempt

/-- One entry of the hold list stands before another: it expires earlier, or at the same moment and was placed no later
(R121). -/
def HoldEntry.before (e f : HoldEntry) : Prop := e.expiry < f.expiry ∨ (e.expiry = f.expiry ∧ e.placed ≤ f.placed)

/-- The hold list is sound (R121). -/
structure State.HoldLaw (s : State) : Prop where
  few : s.holds.length ≤ 4
  once : (s.holds.map HoldEntry.ch).Nodup
  ordered : s.holds.Pairwise HoldEntry.before
  past : ∀ e ∈ s.holds, e.placed ≤ s.now
  loads : ∀ e ∈ s.holds,
    s.chans[e.ch].cfg.fitted = true ∧ s.chans[e.ch].cfg.cls = .sheddable ∧ s.chans[e.ch].demand = true

/-- A force exists only outside a reset, in RUN, while INSTALL is asserted, on a fitted channel, and before the 5 s of
link quiet have been handed over (R128). -/
def State.ForceLaw (s : State) : Prop :=
  ∀ i : Ch, s.chans[i].force ≠ .none →
    s.inReset = none ∧ s.power.st = .run ∧ s.power.install.deb = true ∧ s.link.quietHanded = false
      ∧ s.chans[i].cfg.fitted = true

/-- Every output is low during a reset (R144), and otherwise on exactly when the output law says so (R71). -/
def State.OutputLaw (s : State) : Prop :=
  ∀ i : Ch, s.chans[i].out = (s.inReset.isNone && s.chans[i].law)

/-- ALERTN is asserted exactly while a latch is set whose mask is clear (R163). -/
def State.AlertLaw (s : State) : Prop :=
  s.notices.alertn = decide (∃ n : Fin 9, s.notices.latch[n] = true ∧ s.notices.mask[n] = false)

/-- The level notices are sound (R162): an acknowledge mark stands only on a set latch whose condition holds, and outside
a reset the latch of every condition that holds is set. -/
structure State.LevelLaw (s : State) : Prop where
  marked : s.notices.ackMark &&& ~~~(s.notices.latch &&& s.conditions) = 0
  latched : s.inReset = none → s.conditions &&& ~~~s.notices.latch = 0

/-- The counts stay within their ceilings: tallies (R165), usage (R88), link counts (R155), the erase count (R173) and the
scan number (R14). -/
structure State.CeilingLaw (s : State) : Prop where
  tallies : ∀ k : Fin 8, s.tally[k].value ≤ Config.totalMax
  usages : ∀ i : Ch, s.chans[i].usage ≤ Config.totalMax
  link : ∀ n ∈ [s.link.counts.good, s.link.counts.framing, s.link.counts.brk, s.link.counts.noise,
    s.link.counts.short, s.link.counts.gap, s.link.counts.length, s.link.counts.crc, s.link.counts.dropped],
    n ≤ Config.countMax
  erases : s.store.eraseCount ≤ Config.eraseMax
  scans : s.scanner.number ≤ 65535

/-- One channel's protection is sound: the retry timer runs exactly in TRIP_WAIT (R81), retries used is 0 to 7, the
over-count stays below the highest trip count and the open-load run count within 10 (R80, R81, R87). -/
structure Chan.ProtectionLaw (c : Chan) : Prop where
  timer : c.retryEnd.isSome = true ↔ c.prot = .tripWait
  retries : c.retries ≤ 7
  overCount : c.overCount ≤ 15
  openRun : c.openRun ≤ 10
  settings : c.cfg.tripCount ≤ 16 ∧ c.cfg.retryCount ≤ 7

/-- Every channel's protection is sound. -/
def State.ProtectionLaw (s : State) : Prop := ∀ i : Ch, s.chans[i].ProtectionLaw

/-- Nothing that the Sequencer must mark at once stands unmarked outside a reset: every channel that it may shed while it
is in SETTLE (R114), and every channel of the must-shed set at depth 5 (R108, R109). -/
structure State.MarkedLaw (s : State) : Prop where
  settle : s.inReset = none → s.seq.st = .settle → ∀ i : Ch,
    s.chans[i].cfg.fitted = true → s.chans[i].demand = true → s.chans[i].force = .none →
      s.chans[i].cfg.cls ≠ .exempt → s.chans[i].mark.isSome = true
  cutoff : s.inReset = none → s.tiers.depth = 5 → ∀ i : Ch, s.mustShed i = true → s.chans[i].mark.isSome = true

/-- The image is invalid while a save is in progress, and no save is in progress during a reset (R173, R174). -/
structure State.StoreLaw (s : State) : Prop where
  invalid : s.isSaving = true → s.store.image = none
  idle : s.inReset.isSome = true → s.isSaving = false

end Sys2Proof.Machine
end

