-- ==== Sys2Proof/Certificates/Slice0/Obligations.lean ====
section
/-! DEFINITION. The statements for the provers, in five groups: the queue and the reset state; what every step keeps; rules
over all commands; what each command does; and the tables of single operations. -/

section

open Sys2Proof Sys2Proof.Machine

/-! ### The queue and the reset state -/

/-- The queue is the model's own form (notes/assumptions/2.md): a step takes the command at its front, and idles when it is
empty. -/
def Obligations.StepTakesTheFrontCommand : Prop :=
  (∀ (c : Instr) (rest : List Instr) (s : State),
    s.pending = c :: rest → step s = exec c { s with pending := rest }) ∧
  (∀ s : State, s.pending = [] → step s = .next s)

/-- The after-reset tables of the chapters, with the factory profile of a part that leaves the factory with its store erased
(R16, R41, R64, R91, R120, R134, R155, R164, R168) and its tables of R32, R44 and R65. The straps, the inputs and the clock's
origin are the model's choice (notes/assumptions/6.md) and are not stated. -/
def Obligations.ResetStateHoldsTheAfterResetValues : Prop :=
  let s := State.reset
  (s.inReset = none ∧ s.power.st = .run ∧ s.power.cause = .powerOn ∧ s.power.cfg = ⟨true, 15⟩) ∧
  (s.scanner.record = none ∧ s.scanner.number = 0 ∧ s.scanner.lastV = none ∧ s.scanner.lastI = none ∧
    s.scanner.vRun = 0 ∧ s.scanner.iRun = 0 ∧ s.scanner.senseFault = false ∧
    s.scanner.inFlight = some ⟨.run, Vector.replicate 24 true, s.now⟩ ∧
    s.scanner.timer = some (s.now + 100 * Config.unitsPerMs)) ∧
  (s.est.st = .start ∧ s.est.seedPending = true ∧ s.est.window = [] ∧ s.est.averaged = 0 ∧ s.est.compensated = 0 ∧
    s.est.q = 0 ∧ s.est.reserve = 0 ∧ s.est.unconfirmed = true ∧ s.est.restTimer = 0 ∧ s.est.fullTimer = 0 ∧
    s.est.fullLatched = false ∧ s.est.curveValid = true ∧ s.est.battery = ⟨100, 150, 50, 60, 14200, 200, 10⟩) ∧
  ((∀ k : Fin 5, s.tiers.recs[k].st = .clear ∧ s.tiers.recs[k].streak = 0 ∧ s.tiers.recs[k].conf = none) ∧
    s.tiers.depth = 0) ∧
  (s.tiers.recs[0].cfg = ⟨.reserve, 300, 350, 50, 250, true⟩ ∧
    s.tiers.recs[1].cfg = ⟨.reserve, 200, 250, 50, 250, true⟩ ∧
    s.tiers.recs[2].cfg = ⟨.voltage, 12000, 12400, 100, 250, false⟩ ∧
    s.tiers.recs[3].cfg = ⟨.voltage, 11800, 12300, 50, 250, false⟩ ∧
    s.tiers.recs[4].cfg = ⟨.voltage, 11500, 12500, 30, 250, false⟩) ∧
  (s.est.curve.toList.map fun p => (p.mv, p.reserve)) =
    [(11800, 0), (12400, 50), (12800, 100), (12900, 150), (12950, 200), (13000, 300), (13030, 400), (13060, 500),
      (13100, 600), (13130, 650), (13160, 700), (13200, 750), (13250, 800), (13300, 900), (13400, 950), (13600, 1000)] ∧
  (∀ i : Ch, s.chans[i].cfg =
    { fitted := true, cls := .sheddable
      shedTier := if i.val < 6 then 4 else if i.val < 12 then 3 else if i.val < 18 then 2 else 1
      limit := 1000, tripCount := 3, blanking := 5, retryCount := 2, retryDelay := 5, minOn := 0, minOff := 0
      openLevel := 0, startDemand := false }) ∧
  (∀ i : Ch, s.chans[i].out = false ∧ s.chans[i].demand = false ∧ s.chans[i].prot = .normal ∧
    s.chans[i].retries = 0 ∧ s.chans[i].retryEnd = none ∧ s.chans[i].blankEnd = none ∧ s.chans[i].goodRun = none ∧
    s.chans[i].runLock = none ∧ s.chans[i].restLock = none ∧ s.chans[i].overCount = 0 ∧ s.chans[i].openRun = 0 ∧
    s.chans[i].openFlag = false ∧ s.chans[i].usage = 0 ∧ s.chans[i].lastOff = ⟨.none, 0⟩ ∧
    s.chans[i].mark = none ∧ s.chans[i].force = .none) ∧
  (s.seq.order = channels ∧ s.seq.st = .settle ∧ s.seq.lastStep = none ∧ s.seq.settleStart = none ∧
    s.seq.cfg = ⟨20, 100, 30⟩ ∧ s.holds = []) ∧
  (s.link.rx = .wait ∧ s.link.buffer = [] ∧ s.link.gapEnd = none ∧ s.link.reply = none ∧ s.link.sending = none ∧
    s.link.counts = ⟨0, 0, 0, 0, 0, 0, 0, 0, 0⟩ ∧ s.link.quietStart = s.now) ∧
  (s.notices.latch = 0b100000001 ∧ s.notices.ackMark = 0 ∧ s.notices.mask = 0 ∧ s.notices.alertn = true) ∧
  (∀ k : Fin 8, s.tally[k].value = 0 ∧ s.tally[k].sel = ⟨.none, 0, false, true⟩) ∧
  (s.store.image = none ∧ s.store.eraseCount = 0 ∧ s.store.saving = none ∧ s.store.outcome = .none ∧
    s.store.source = .factory)

/-- The state after reset meets every law that the statements below keep. -/
def Obligations.ResetStateMeetsEveryLaw : Prop :=
  let s := State.reset
  s.OrderLaw ∧ s.TierLaw ∧ s.EstimateLaw ∧ s.MarkLaw ∧ s.HoldLaw ∧ s.ForceLaw ∧ s.OutputLaw ∧ s.AlertLaw ∧
    s.LevelLaw ∧ s.CeilingLaw ∧ s.ProtectionLaw ∧ s.MarkedLaw ∧ s.StoreLaw

/-! ### What every step keeps -/

/-- R93: the priority list holds each of the 24 channels exactly once. R173 and R174: the image is invalid while a save is in
progress, and no save is in progress during a reset. -/
def Obligations.EveryStepKeepsTheOrderAndTheStoreLaw : Prop :=
  ∀ s t : State, step s = .next t → (s.OrderLaw → t.OrderLaw) ∧ (s.StoreLaw → t.StoreLaw)

/-- R58: the depth is 5 while the cutoff is ACTIVE or RELEASING, and otherwise the highest tier number in ACTIVE or RELEASING, or
0; kept with the ranges and conditions of R43, R44, R48, R50 and R51. -/
def Obligations.EveryStepKeepsTheTierLaw : Prop :=
  ∀ s t : State, s.TierLaw → step s = .next t → t.TierLaw ∧
    let called : Fin 5 → Prop := fun k => t.tiers.recs[k].st = .active ∨ t.tiers.recs[k].st = .releasing
    (called 4 → t.tiers.depth = 5) ∧
    (¬called 4 → (∀ k : Fin 5, called k → k.val + 1 ≤ t.tiers.depth) ∧
      (t.tiers.depth = 0 ∨ ∃ k : Fin 5, called k ∧ t.tiers.depth = k.val + 1))

/-- R25: the full charge, the range of Q and the reserve that Q gives, which is 1,000 only at the full charge; kept with the
ranges of R22, R24 and R32. -/
def Obligations.EveryStepKeepsTheEstimateLaw : Prop :=
  ∀ s t : State, s.EstimateLaw → step s = .next t → t.EstimateLaw ∧
    let full := t.est.battery.capacity * 3600000
    18000000 ≤ full ∧ full ≤ 3600000000 ∧ t.est.q ≤ full ∧ t.est.reserve = t.est.q * 1000 / full ∧
      t.est.reserve ≤ 1000 ∧ (t.est.reserve = 1000 → t.est.q = full)

/-- R97 and R98: a marked channel is fitted, has demand ON and is not EXEMPT. -/
def Obligations.EveryStepKeepsTheMarkLaw : Prop :=
  ∀ s t : State, s.MarkLaw → step s = .next t → t.MarkLaw

/-- R121: at most four entries, one for a channel, in order of expiry and placing, each on a fitted, SHEDDABLE channel with
demand ON. -/
def Obligations.EveryStepKeepsTheHoldLaw : Prop :=
  ∀ s t : State, s.HoldLaw → step s = .next t → t.HoldLaw

/-- R128: a force exists only in RUN, with INSTALL asserted, and before the 5 s of link quiet have been handed over. A LINK_QUIET
that is sent late hands them over late, and a force then outlives the 5 s (notes/assumptions/5.md). -/
def Obligations.EveryStepKeepsTheForceLaw : Prop :=
  ∀ s t : State, s.ForceLaw → step s = .next t → t.ForceLaw

/-- R71 and R144: every output is on exactly when the output law says so, and low during a reset. -/
def Obligations.EveryStepKeepsTheOutputLaw : Prop :=
  ∀ s t : State, s.OutputLaw → step s = .next t → t.OutputLaw

/-- R163: ALERTN is asserted exactly while at least one notice latch is set whose mask is clear. -/
def Obligations.EveryStepKeepsTheAlertLaw : Prop :=
  ∀ s t : State, s.AlertLaw → step s = .next t → t.AlertLaw

/-- R162: a mark stands only on a set latch whose condition holds, and a condition that holds has its latch set. The cutoff's
condition needs that the cutoff is neither DISABLED nor SUPPRESSED, which the Tier Monitor's law gives. -/
def Obligations.EveryStepKeepsTheLevelLaw : Prop :=
  ∀ s t : State, s.TierLaw → s.LevelLaw → step s = .next t → t.LevelLaw

/-- R165, R88, R155, R173 and R14: the counts stay within their ceilings. R80, R81 and R87: the retry timer runs exactly in
TRIP_WAIT, and the counts of each channel stay in their ranges. -/
def Obligations.EveryStepKeepsTheCeilingAndTheProtectionLaw : Prop :=
  ∀ s t : State, step s = .next t → (s.CeilingLaw → t.CeilingLaw) ∧ (s.ProtectionLaw → t.ProtectionLaw)

/-- R108, R109 and R114: what the Sequencer must mark at once, in SETTLE and at depth 5, stands marked after every step. -/
def Obligations.EveryStepKeepsTheMarkedLaw : Prop :=
  ∀ s t : State, s.MarkedLaw → step s = .next t → t.MarkedLaw

/-! ### Rules over all commands -/

/-- R84: a channel leaves LATCHED only through CLEAR_TRIP, which a frame on the line may carry, through being made unfitted,
or through a reset. -/
def Obligations.LatchedIsLeftOnlyByItsThreeCauses : Prop :=
  ∀ (c : Instr) (s t : State) (i : Ch),
    exec c s = .next t → s.chans[i].cfg.fitted = true → s.chans[i].prot = .latched → t.chans[i].prot ≠ .latched →
      (∃ dt r, c = .clearTrip dt r) ∨
      (∃ dt cs, c = .characterTaken dt cs ∧ s.link.buffer[2]? = some 0x14) ∨
      t.chans[i].cfg.fitted = false ∨
      (∃ dt adr br, c = .resetEnd dt adr br)

/-- R165: a tally counter's value never decreases except by COUNTERS_CLEAR, which a frame on the line may carry, or by a cold
reset. -/
def Obligations.TallyFallsOnlyByClearOrColdReset : Prop :=
  ∀ (c : Instr) (s t : State) (k : Fin 8),
    exec c s = .next t → s.tally[k].value ≤ Config.totalMax → t.tally[k].value < s.tally[k].value →
      (∃ dt r, c = .countersClear dt r) ∨
      (∃ dt cs, c = .characterTaken dt cs ∧ s.link.buffer[2]? = some 0x22) ∨
      (∃ dt adr br x, c = .resetEnd dt adr br ∧ s.inReset = some x ∧ x.cold = true)

/-- R144: while a reset is in progress the part takes no request, no character, no conversion and no timer; only its
sources, its end and the raw levels of the inputs move anything but the clock. That a command which cannot occur moves
the clock alone is the model's choice (notes/assumptions/5.md). -/
def Obligations.NothingMovesDuringAReset : Prop :=
  ∀ (c : Instr) (s : State), s.inReset.isSome = true →
    (∀ dt, c ≠ .powerOn dt) → (∀ dt, c ≠ .supplyLow dt) → (∀ dt, c ≠ .rstn dt) →
    (∀ dt adr br, c ≠ .resetEnd dt adr br) → (∀ dt i low, c ≠ .rawInputChange dt i low) →
      exec c s = .next { s with now := s.now + c.dt }

/-- R156, R171, R173: without INSTALL a request of the INSTALLER group is answered DENIED, and with INSTALL it is answered BUSY
while a save is in progress; neither changes anything but the link. R66: a write to LOADS belongs to the group when it touches an
INSTALLER field; one that changes the start demand alone is taken without INSTALL, and is BUSY during a save. -/
def Obligations.InstallerRequestsAreDeniedOrBusy : Prop :=
  ∀ (dt : Nat) (tag hi lo : Byte) (s : State), s.Hears →
    let u := s.taken dt
    let gate : Status := if s.power.install.deb = false then .denied else .busy
    let load : Ch → LoadSettings → Instr := fun i w =>
      .profileWriteLoads dt ⟨false, tag, u8 (i.val + 1) ++ w.field⟩
    ((s.power.install.deb = false ∨ s.isSaving = true) →
      (∀ w : BatterySettings, exec (.profileWriteBattery dt ⟨false, tag, w.field⟩) s =
        .next (u.answered 0x31 tag gate [])) ∧
      (∀ (k : Fin 5) (w : TierSettings), exec (.profileWriteTiers dt ⟨false, tag, u8 (k.val + 1) ++ w.field⟩) s =
        .next (u.answered 0x31 tag gate [])) ∧
      (∀ (i : Ch) (w : LoadSettings), w.shedTier < 256 → w.limit < 65536 → w.tripCount < 256 → w.blanking < 256 →
        w.retryCount < 256 → w.retryDelay < 256 → w.minOn < 65536 → w.minOff < 65536 → w.openLevel < 65536 →
        { w with startDemand := s.chans[i].cfg.startDemand } ≠ s.chans[i].cfg →
          exec (load i w) s = .next (u.answered 0x31 tag gate [])) ∧
      (∀ p : CurvePoint, exec (.profileWriteCurve dt ⟨false, tag, u8 0 ++ p.field⟩) s =
        .next (u.answered 0x31 tag gate [])) ∧
      (∀ w : SequenceSettings, exec (.profileWriteSequence dt ⟨false, tag, w.field⟩) s =
        .next (u.answered 0x31 tag gate [])) ∧
      exec (.loadDefaults dt ⟨false, tag, []⟩) s = .next (u.answered 0x34 tag gate []) ∧
      exec (.setChargeReserve dt ⟨false, tag, [hi, lo]⟩) s = .next (u.answered 0x35 tag gate []) ∧
      exec (.setChargeFull dt ⟨false, tag, [hi, lo]⟩) s = .next (u.answered 0x35 tag gate [])) ∧
    ∀ (i : Ch) (on : Bool), s.chans[i].cfg.clamp = s.chans[i].cfg →
      let w : LoadSettings := { s.chans[i].cfg with startDemand := on }
      (s.isSaving = true → exec (load i w) s = .next (u.answered 0x31 tag .busy [])) ∧
      (s.isSaving = false → exec (load i w) s = .next (State.answered
        { u with chans := Vector.ofFn fun j : Ch =>
            if j = i then { s.chans[j] with cfg := w } else s.chans[j] } 0x31 tag .ok (u8 (i.val + 1) ++ w.field)))

/-! ### What each command does: the readings -/

/-- R159 and R15: IDENT and MEASURE are answered with their 14 and 55 characters and change nothing but the link. -/
def Obligations.IdentAndMeasureAnswer : Prop :=
  ∀ (dt : Nat) (tag : Byte) (s : State), s.Hears →
    let u := s.taken dt
    exec (.ident dt ⟨false, tag, []⟩) s = .next (u.answered 0x01 tag .ok
      ([0x4C, 0x53, 0x32, 0x34, 0x01] ++ u8 (s.power.adr.toNat + 1) ++ u8 s.power.br.toNat ++ u8 s.power.cause.code
        ++ u8 s.store.source.code ++ u16 s.store.eraseCount ++ setField fun i => s.chans[i].cfg.fitted)) ∧
    exec (.measure dt ⟨false, tag, []⟩) s = .next (u.answered 0x06 tag .ok
      (match s.scanner.record with
        | none => List.replicate 55 0
        | some d =>
          u16 d.number ++ u16 d.voltage ++ s16 d.current
            ++ u8 (bitIf (decide (d.vStanding = .valid)) 1 + bitIf (decide (d.iStanding = .valid)) 2
              + bitIf d.senseFault 4 + bitIf (decide (d.power = .doze)) 8)
            ++ d.currents.toList.flatMap u16))

/-- R158: STATUS is answered with its 29 characters and changes nothing but the link. Its own frame has restarted the
link-quiet timer (R153), which it therefore reports as 0. -/
def Obligations.StatusAnswers : Prop :=
  ∀ (dt : Nat) (tag : Byte) (s : State), s.Hears →
    exec (.status dt ⟨false, tag, []⟩) s = .next ((s.taken dt).answered 0x02 tag .ok
      (u8 (if s.power.st = .doze then 1 else 0) ++ u8 s.seq.st.code ++ u8 s.tiers.depth
        ++ s.tiers.recs.toList.flatMap (fun r => u8 r.st.code)
        ++ u16 ((s.scanner.record.map ScanRecord.voltage).getD 0)
        ++ s16 ((s.scanner.record.map ScanRecord.current).getD 0)
        ++ s16 s.est.averaged ++ u16 s.est.compensated ++ u16 s.est.reserve ++ u8 s.est.st.code
        ++ u8 (bitIf s.est.unconfirmed 1 + bitIf s.est.curveValid 2 + bitIf s.est.fullLatched 4
          + bitIf s.scanner.senseFault 8)
        ++ u16 s.notices.latch.toNat ++ u16 s.notices.mask.toNat
        ++ u8 (bitIf s.notices.alertn 1 + bitIf s.power.shore.deb 2 + bitIf s.power.ign.deb 4
          + bitIf s.power.install.deb 8)
        ++ u8 (bitIf s.store.saving.isSome 1) ++ u8 s.store.outcome.code ++ u16 0))

/-- R90, R79 and R160: LOAD_STATUS of one fitted channel is answered with its load record of 19 characters and changes nothing
but the link; a channel that is not fitted is refused with BAD_CHANNEL. -/
def Obligations.LoadStatusAnswers : Prop :=
  ∀ (dt : Nat) (tag : Byte) (s : State) (i : Ch), s.Hears →
    let u := s.taken dt
    let c := s.chans[i]
    let now := s.now + dt
    let left : Option Nat → Nat := fun e => (e.getD now - now + (Config.unitsPerSecond - 1)) / Config.unitsPerSecond
    let hold := s.holds.find? fun e => decide (e.ch = i)
    let request : Req := ⟨false, tag, u8 (i.val + 1) ++ [1]⟩
    (c.cfg.fitted = false → exec (.loadStatus dt request) s = .next (u.answered 0x03 tag .badChannel [])) ∧
    (c.cfg.fitted = true → exec (.loadStatus dt request) s = .next (u.answered 0x03 tag .ok
      (u8 (i.val + 1) ++ u8 (s.seq.order.idxOf i + 1)
        ++ u8 (bitIf c.demand 1 + bitIf c.out 2 + bitIf c.mark.isSome 4 + bitIf c.openFlag 8 + bitIf (s.held i) 16
          + bitIf (decide (c.force ≠ .none)) 32 + bitIf (decide (c.force = .on)) 64 + bitIf c.restLock.isSome 128)
        ++ u8 (16 * c.prot.code + c.retries)
        ++ u16 (if c.prot = .tripWait then left c.retryEnd else 0)
        ++ u8 (((hold.map HoldEntry.expiry).getD now - now + (Config.unitsPerMinute - 1)) / Config.unitsPerMinute)
        ++ u8 (if c.out then 0 else bitIf (decide (c.prot = .latched)) 1 + bitIf (decide (c.prot = .tripWait)) 2
          + bitIf (decide (c.force = .off)) 4 + bitIf (c.mark.isSome && decide (c.force ≠ .on)) 8
          + bitIf (c.restLock.isSome && decide (c.force ≠ .on)) 16 + bitIf (!c.demand && decide (c.force ≠ .on)) 32)
        ++ u8 c.lastOff.cause.code ++ u16 c.lastOff.detail
        ++ u16 ((s.scanner.record.map fun d => d.currents[i]).getD 0) ++ u32 c.usage
        ++ u16 (left (if c.out then c.runLock else c.restLock)))))

/-- R155, R167 and R168: the link counts and the tally counters are read and cleared. A frame is counted GOOD before the counts
are read; without INSTALL the value of a counter that is not visible is withheld; a clearing changes nothing else. -/
def Obligations.CountsAreReadAndCleared : Prop :=
  ∀ (dt : Nat) (tag n : Byte) (s : State), s.Hears →
    let u := s.taken dt
    let k := s.link.counts
    let withheld : Counter → Bool := fun c => !s.power.install.deb && !c.sel.visible
    exec (.linkStatus dt ⟨false, tag, []⟩) s = .next (u.answered 0x04 tag .ok
      (u16 (min 65535 (k.good + 1)) ++ u16 k.framing ++ u16 k.brk ++ u16 k.noise ++ u16 k.short ++ u16 k.gap
        ++ u16 k.length ++ u16 k.crc ++ u16 k.dropped)) ∧
    exec (.clearLinkCounts dt ⟨false, tag, []⟩) s = .next
      (State.answered { u with link := { u.link with counts := ⟨0, 0, 0, 0, 0, 0, 0, 0, 0⟩ } } 0x23 tag .ok []) ∧
    exec (.countersRead dt ⟨false, tag, []⟩) s = .next (u.answered 0x05 tag .ok
      (s.tally.toList.flatMap fun c =>
        u8 c.sel.kind.code ++ u8 c.sel.qualifier
          ++ u8 (bitIf c.sel.inhibit 1 + bitIf c.sel.visible 2 + bitIf (withheld c) 4)
          ++ u32 (if withheld c then 0 else c.value))) ∧
    exec (.countersClear dt ⟨false, tag, [n]⟩) s = .next
      (State.answered
        { u with tally := Vector.ofFn fun j : Fin 8 =>
            if n.toNat.testBit j.val then { s.tally[j] with value := 0 } else s.tally[j] } 0x22 tag .ok [n])

/-- R172: a reading of BATTERY carries the seven settings, a reading of ORDER the channel at a position; a LOADS index outside 1
to 24 is refused with BAD_CHANNEL and a section outside 1 to 9 with BAD_VALUE. Nothing but the link changes. -/
def Obligations.ProfileReadAnswers : Prop :=
  ∀ (dt : Nat) (tag x y n : Byte) (s : State), s.Hears →
    let u := s.taken dt
    let b := s.est.battery
    exec (.profileRead dt ⟨false, tag, [1, 0, 1]⟩) s = .next (u.answered 0x30 tag .ok
      ([1, 0, 1] ++ u16 b.capacity ++ u16 b.resistance ++ u16 b.restCurrent ++ u16 b.restTime ++ u16 b.fullVoltage
        ++ u16 b.tailCurrent ++ u16 b.fullHold)) ∧
    (∀ i : Ch, s.seq.order[x.toNat - 1]? = some i → 1 ≤ x.toNat → s.seq.order.length = 24 →
      exec (.profileRead dt ⟨false, tag, [4, x, 1]⟩) s = .next (u.answered 0x30 tag .ok
        ([4, x, 1] ++ u8 (i.val + 1)))) ∧
    (x.toNat = 0 ∨ 24 < x.toNat →
      exec (.profileRead dt ⟨false, tag, [3, x, n]⟩) s = .next (u.answered 0x30 tag .badChannel [])) ∧
    (x.toNat = 0 ∨ 9 < x.toNat →
      exec (.profileRead dt ⟨false, tag, [x, y, n]⟩) s = .next (u.answered 0x30 tag .badValue []))

/-! ### What each command does: the loads, the holds and the forces -/

/-- R76, R68 and R71: SWITCH ON sets the demand of its effective set and derives every output; outside SETTLE and at depth 0 a
channel that nothing holds comes on. The reply carries the effective set and those of it that are on. -/
def Obligations.SwitchOnSetsDemandAndBringsOutputsOn : Prop :=
  ∀ (dt : Nat) (tag a b c : Byte) (s : State), s.Hears → s.OutputLaw →
    let set := be24 a.toNat b.toNat c.toNat
    let hit : Ch → Bool := fun i => set.testBit i.val && s.chans[i].cfg.fitted
    ∃ t, exec (.switch dt ⟨false, tag, [a, b, c, 1]⟩) s = .next t ∧ s.Spares t ∧ t.holds = s.holds ∧
      (∀ i : Ch, t.chans[i].demand = (s.chans[i].demand || hit i)) ∧
      (∀ i : Ch, t.chans[i].cfg = s.chans[i].cfg ∧ t.chans[i].prot = s.chans[i].prot ∧
        t.chans[i].retries = s.chans[i].retries ∧ t.chans[i].retryEnd = s.chans[i].retryEnd ∧
        t.chans[i].usage = s.chans[i].usage ∧ t.chans[i].force = s.chans[i].force) ∧
      (∀ i : Ch, t.chans[i].out = t.chans[i].law) ∧
      (∀ i : Ch, hit i = true → s.chans[i].prot = .normal → s.chans[i].force = .none → s.chans[i].mark = none →
        s.chans[i].restLock = none → s.seq.st ≠ .settle → s.tiers.depth = 0 → t.chans[i].out = true) ∧
      t.Replies 0x10 tag (if channels.any fun i => set.testBit i.val && !s.chans[i].cfg.fitted then .clamped else .ok)
        (setField hit ++ setField fun i => hit i && t.chans[i].out)

/-- R77 and R84: SWITCH OFF takes the demand, the mark and the hold entry of each channel of its effective set whose demand is
ON, moves TRIP_WAIT to NORMAL with its retry timer stopped and retries used kept, and turns an unforced output off with cause
DEMAND; every other channel keeps what no output or mark can change, and no notice is set. -/
def Obligations.SwitchOffTurnsUnforcedOutputsOff : Prop :=
  ∀ (dt : Nat) (tag a b c : Byte) (s : State), s.Hears → s.OutputLaw →
    let set := be24 a.toNat b.toNat c.toNat
    let hit : Ch → Bool := fun i => set.testBit i.val && s.chans[i].cfg.fitted
    let off : Ch → Bool := fun i => hit i && s.chans[i].demand
    ∃ t, exec (.switch dt ⟨false, tag, [a, b, c, 0]⟩) s = .next t ∧ s.Spares t ∧
      (∀ i : Ch, off i = true →
        t.chans[i].demand = false ∧ t.chans[i].mark = none ∧ t.chans[i].retries = s.chans[i].retries ∧
        t.chans[i].cfg = s.chans[i].cfg ∧ t.chans[i].usage = s.chans[i].usage ∧ t.chans[i].force = s.chans[i].force ∧
        t.chans[i].prot = (if s.chans[i].prot = .tripWait then .normal else s.chans[i].prot) ∧
        (s.chans[i].prot = .tripWait → t.chans[i].retryEnd = none) ∧
        (s.chans[i].force ≠ .on → t.chans[i].out = false) ∧
        (s.chans[i].force = .none → s.chans[i].out = true → t.chans[i].lastOff = ⟨.demand, 0⟩)) ∧
      (∀ i : Ch, off i = false → s.chans[i].Keeps t.chans[i]) ∧
      t.holds = s.holds.filter (fun e => !off e.ch) ∧
      t.Replies 0x10 tag (if channels.any fun i => set.testBit i.val && !s.chans[i].cfg.fitted then .clamped else .ok)
        (setField hit ++ setField fun i => hit i && t.chans[i].out)

/-- R110: outside SETTLE, a channel whose demand a SWITCH ON changes to ON and that is then in the must-shed set at depth 1 to 4
is marked at once with SHED_Tn and the confirming value of tier n; its output does not come on and its last-off cause is not
changed. At depth 5 it is marked with CUTOFF and the cutoff's confirming value, and the last step time stands. -/
def Obligations.SwitchOnShedsOnArrival : Prop :=
  ∀ (dt x : Nat) (tag a b c : Byte) (s : State) (i : Ch), s.Hears →
    (be24 a.toNat b.toNat c.toNat).testBit i.val = true → s.seq.st ≠ .settle → s.chans[i].cfg.fitted = true →
    s.chans[i].demand = false → s.chans[i].force = .none → s.chans[i].mark = none → s.chans[i].out = false →
      let marked : Mark → State → Prop := fun m t =>
        t.chans[i].demand = true ∧ t.chans[i].mark = some m ∧ t.chans[i].out = false ∧
          t.chans[i].lastOff = s.chans[i].lastOff ∧ s.Spares t ∧ t.holds = s.holds
      (∀ d : Fin 4, s.tiers.depth = d.val + 1 → s.tiers.recs[d.val].conf = some x → s.chans[i].cfg.cls = .sheddable →
        s.chans[i].cfg.shedTier ≤ d.val + 1 → s.held i = false →
          ∃ t, exec (.switch dt ⟨false, tag, [a, b, c, 1]⟩) s = .next t ∧ marked ⟨.shed (d.val + 1), x⟩ t) ∧
      (s.MarkLaw → s.MarkedLaw → s.tiers.depth = 5 → s.tiers.recs[4].conf = some x → s.chans[i].cfg.cls ≠ .exempt →
        ∃ t, exec (.switch dt ⟨false, tag, [a, b, c, 1]⟩) s = .next t ∧ marked ⟨.cutoff, x⟩ t ∧
          t.seq.lastStep = s.seq.lastStep)

/-- R122 and R121: HOLD on a fitted channel: refused with NOT_APPLICABLE when the class is not SHEDDABLE or the demand
OFF, given a new expiry and placing moment when the channel has an entry, refused with HOLD_FULL when four entries
stand, and placed otherwise, with the minutes clamped to 1 to 240. The expiry is kept to the millisecond, with the placing moment
rounded down (notes/assumptions/12.md). A re-hold changes nothing but the list and the link, so that it brings no
reconsideration, which is the model's reading (notes/assumptions/19.md). -/
def Obligations.HoldPlacesAnEntry : Prop :=
  ∀ (dt : Nat) (tag m : Byte) (s : State) (i : Ch), s.Hears → s.chans[i].cfg.fitted = true →
    let u := s.taken dt
    let k := u8 (i.val + 1)
    let minutes := clampNat 1 240 m.toNat
    let entry : HoldEntry :=
      ⟨i, (s.now + dt) / Config.unitsPerMs * Config.unitsPerMs + minutes * (60 * Config.unitsPerSecond), s.now + dt⟩
    let status : Status := if minutes = m.toNat then .ok else .clamped
    let listed : State → List Byte := fun t =>
      k ++ u8 minutes ++ u8 t.holds.length ++ t.holds.flatMap fun e => u8 (e.ch.val + 1)
        ++ u8 ((e.expiry - t.now + (Config.unitsPerMinute - 1)) / Config.unitsPerMinute)
    let request : Instr := .hold dt ⟨false, tag, k ++ [m]⟩
    let eligible := s.chans[i].cfg.cls = .sheddable ∧ s.chans[i].demand = true
    (¬eligible → exec request s = .next (u.answered 0x11 tag .notApplicable (k ++ u8 s.holds.length))) ∧
    (eligible → s.held i = true → ∃ t, exec request s = .next t ∧ t = { u with holds := t.holds, link := t.link } ∧
      (∀ e, e ∈ t.holds ↔ e = entry ∨ (e ∈ s.holds ∧ e.ch ≠ i)) ∧ t.Replies 0x11 tag status (listed t)) ∧
    (eligible → s.held i = false → 4 ≤ s.holds.length →
      exec request s = .next (u.answered 0x11 tag .holdFull (k ++ u8 s.holds.length))) ∧
    (eligible → s.held i = false → s.holds.length < 4 → ∃ t, exec request s = .next t ∧
      (∀ e, e ∈ t.holds ↔ e = entry ∨ e ∈ s.holds) ∧ t.holds.length = s.holds.length + 1 ∧ s.Spares t ∧
      (∀ j : Ch, s.chans[j].Keeps t.chans[j]) ∧ t.Replies 0x11 tag status (listed t))

/-- R124 and R125: an expiry and a RELEASE_HOLD remove the channel's entry and no other. The expiry latches HOLD_END and is
counted; the release sets no notice and counts nothing. Neither ends DOZE. -/
def Obligations.HoldEntriesLeaveByExpiryOrRelease : Prop :=
  ∀ (dt : Nat) (tag : Byte) (s : State) (i : Ch),
    (s.Hears → s.chans[i].cfg.fitted = true → ∃ t,
      exec (.releaseHold dt ⟨false, tag, u8 (i.val + 1)⟩) s = .next t ∧
      t.holds = s.holds.filter (fun e => decide (e.ch ≠ i)) ∧ s.Spares t ∧ (∀ j : Ch, s.chans[j].Keeps t.chans[j]) ∧
      (s.CeilingLaw → ∀ k : Fin 8, s.tally[k].sel.kind = .holdExpiry → t.tally[k] = s.tally[k]) ∧
      t.Replies 0x12 tag .ok (u8 (i.val + 1) ++ u8 t.holds.length ++ t.holds.flatMap fun e => u8 (e.ch.val + 1)
        ++ u8 ((e.expiry - t.now + (Config.unitsPerMinute - 1)) / Config.unitsPerMinute))) ∧
    (s.inReset = none → (∃ e ∈ s.holds, e.ch = i ∧ e.expiry ≤ s.now + dt) → ∃ t,
      exec (.holdExpiry dt i) s = .next t ∧
      t.holds = s.holds.filter (fun e => decide (e.ch ≠ i)) ∧
      State.Spares { s with notices := t.notices } t ∧ (∀ j : Ch, s.chans[j].Keeps t.chans[j]) ∧
      t.notices.latch = s.notices.latch ||| 0b000100000 ∧ t.notices.mask = s.notices.mask ∧
      t.notices.ackMark = s.notices.ackMark ∧
      (∀ k : Fin 8, s.tally[k].sel.kind = .holdExpiry → t.tally[k].value =
        if (s.tally[k].sel.qualifier = 0 ∨ s.tally[k].sel.qualifier = i.val + 1) ∧ s.tally[k].sel.inhibit = false
        then min Config.totalMax (s.tally[k].value + 1) else min Config.totalMax s.tally[k].value))

/-- R129 and R130: with INSTALL asserted and in RUN, FORCE sets the force of its one channel. Forced ON, the output is on while
the protection state is NORMAL; forced OFF, it is off. Without INSTALL FORCE is refused with DENIED, and in DOZE with
NOT_APPLICABLE. -/
def Obligations.ForceSetsOneChannel : Prop :=
  ∀ (dt : Nat) (tag : Byte) (s : State) (i : Ch) (f : Force), s.Hears → s.OutputLaw → s.chans[i].cfg.fitted = true →
    let request : Instr := .force dt ⟨false, tag, u8 (i.val + 1) ++ u8 f.code⟩
    (s.power.install.deb = false → exec request s = .next ((s.taken dt).answered 0x13 tag .denied [])) ∧
    (s.power.install.deb = true → s.power.st = .doze →
      exec request s = .next ((s.taken dt).answered 0x13 tag .notApplicable [])) ∧
    (s.power.install.deb = true → s.power.st = .run → ∃ t, exec request s = .next t ∧
      t.chans[i].force = f ∧ (∀ j : Ch, j ≠ i → s.chans[j].Keeps t.chans[j]) ∧
      (t.chans[i].cfg = s.chans[i].cfg ∧ t.chans[i].demand = s.chans[i].demand ∧ t.chans[i].prot = s.chans[i].prot ∧
        t.chans[i].retries = s.chans[i].retries ∧ t.chans[i].usage = s.chans[i].usage) ∧
      (f = .on → t.chans[i].out = decide (s.chans[i].prot = .normal)) ∧ (f = .off → t.chans[i].out = false) ∧
      t.holds = s.holds ∧ s.Spares t ∧
      t.Replies 0x13 tag .ok (u8 (i.val + 1) ++ u8 f.code ++ u8 (bitIf t.chans[i].out 1)))

/-- R85 and R89: CLEAR_TRIP sets the channels of its effective set to NORMAL with retries used 0 and the retry timer stopped;
CLEAR_USAGE sets the usage of those channels to 0 and changes nothing else. -/
def Obligations.TripsAndUsageAreCleared : Prop :=
  ∀ (dt : Nat) (tag a b c : Byte) (s : State), s.Hears → s.OutputLaw →
    let u := s.taken dt
    let set := be24 a.toNat b.toNat c.toNat
    let hit : Ch → Bool := fun i => set.testBit i.val && s.chans[i].cfg.fitted
    let status : Status := if channels.any fun i => set.testBit i.val && !s.chans[i].cfg.fitted then .clamped else .ok
    (∃ t, exec (.clearTrip dt ⟨false, tag, [a, b, c]⟩) s = .next t ∧
      (∀ i : Ch, hit i = true → t.chans[i].prot = .normal ∧ t.chans[i].retries = 0 ∧ t.chans[i].retryEnd = none ∧
        t.chans[i].cfg = s.chans[i].cfg ∧ t.chans[i].demand = s.chans[i].demand ∧
        t.chans[i].usage = s.chans[i].usage ∧ t.chans[i].force = s.chans[i].force) ∧
      (∀ i : Ch, hit i = false → s.chans[i].Keeps t.chans[i]) ∧
      (∀ i : Ch, t.chans[i].out = t.chans[i].law) ∧
      t.holds = s.holds ∧ State.Spares { s with notices := t.notices } t ∧
      (∀ n : Fin 9, n ≠ 4 → t.notices.latch[n] = s.notices.latch[n] ∧ t.notices.ackMark[n] = s.notices.ackMark[n]) ∧
      t.Replies 0x14 tag status (setField hit)) ∧
    exec (.clearUsage dt ⟨false, tag, [a, b, c]⟩) s = .next (State.answered
      { u with chans := Vector.ofFn fun i : Ch =>
          if hit i then { s.chans[i] with usage := 0 } else s.chans[i] } 0x15 tag status (setField hit))

/-! ### What each command does: the notices -/

/-- R161, R162 and R164: ACK treats every named notice at one moment: a named latch whose level condition holds stays and takes
its mark, every other named latch clears, and no notice that is not named changes. The reply carries the three sets as they
stand. -/
def Obligations.AckTreatsNamedLatches : Prop :=
  ∀ (dt : Nat) (tag hi lo : Byte) (s : State), s.Hears → be16 hi.toNat lo.toNat < 512 →
    let present : Fin 9 → Bool := fun n =>
      if n = 2 then s.tiers.recs[4].calls
      else if n = 4 then channels.any fun i => decide (s.chans[i].prot = .latched)
      else if n = 6 then s.scanner.senseFault
      else false
    let named : Fin 9 → Bool := fun n => (be16 hi.toNat lo.toNat).testBit n.val
    ∃ x : Notices,
      exec (.ack dt ⟨false, tag, [hi, lo]⟩) s = .next (State.answered { s.taken dt with notices := x } 0x20 tag .ok
        (u16 x.latch.toNat ++ u16 x.mask.toNat ++ u16 x.ackMark.toNat)) ∧
      x.mask = s.notices.mask ∧
      (∀ n : Fin 9, x.latch[n] = (s.notices.latch[n] && (!named n || present n))) ∧
      (∀ n : Fin 9, x.ackMark[n] = (s.notices.ackMark[n] || (named n && present n && s.notices.latch[n]))) ∧
      x.alertn = decide (∃ n : Fin 9, x.latch[n] = true ∧ x.mask[n] = false)

/-- R163 and R171: MASK replaces all nine masks at one moment, forms ALERTN again and is answered with the mask set and the latch
set. A PROFILE_WRITE to NOTICE acts on the masks as MASK does, is answered with the stored mask set, and is refused with BUSY
during a save. A set that names a code above 8 is refused with BAD_VALUE. -/
def Obligations.MaskReplacesTheMasks : Prop :=
  ∀ (dt : Nat) (tag hi lo : Byte) (s : State), s.Hears →
    let u := s.taken dt
    let m := be16 hi.toNat lo.toNat
    let masked : Notices :=
      { s.notices with
        mask := BitVec.ofNat 9 m
        alertn := decide (∃ n : Fin 9, s.notices.latch[n] = true ∧ m.testBit n.val = false) }
    (m < 512 → exec (.mask dt ⟨false, tag, [hi, lo]⟩) s = .next (State.answered { u with notices := masked } 0x21 tag .ok
      ([hi, lo] ++ u16 s.notices.latch.toNat))) ∧
    (m < 512 → s.isSaving = false → exec (.profileWriteNotice dt ⟨false, tag, [hi, lo]⟩) s = .next
      (State.answered { u with notices := masked } 0x31 tag .ok [hi, lo])) ∧
    (m < 512 → s.isSaving = true → exec (.profileWriteNotice dt ⟨false, tag, [hi, lo]⟩) s = .next
      (u.answered 0x31 tag .busy [])) ∧
    (512 ≤ m → exec (.mask dt ⟨false, tag, [hi, lo]⟩) s = .next (u.answered 0x21 tag .badValue []) ∧
      exec (.profileWriteNotice dt ⟨false, tag, [hi, lo]⟩) s = .next (u.answered 0x31 tag .badValue []))

/-! ### What each command does: the profile -/

/-- R35, R36 and R37: a write to BATTERY stores the seven settings, each clamped to its range; a change of capacity rescales Q
and forms the reserve again, and nothing else of the Estimator changes. -/
def Obligations.BatteryWriteRescalesCharge : Prop :=
  ∀ (dt : Nat) (tag : Byte) (s : State) (w : BatterySettings), s.Hears → s.power.install.deb = true → s.isSaving = false →
    w.capacity < 65536 → w.resistance < 65536 → w.restCurrent < 65536 → w.restTime < 65536 → w.fullVoltage < 65536 →
    w.tailCurrent < 65536 → w.fullHold < 65536 →
      let b : BatterySettings :=
        ⟨clampNat 5 1000 w.capacity, clampNat 0 2000 w.resistance, clampNat 0 1000 w.restCurrent,
          clampNat 10 240 w.restTime, clampNat 8000 32000 w.fullVoltage, clampNat 0 5000 w.tailCurrent,
          clampNat 1 60 w.fullHold⟩
      let q := s.est.q * (b.capacity * 3600000) / (s.est.battery.capacity * 3600000)
      let e : Estimator :=
        if b.capacity = s.est.battery.capacity then { s.est with battery := b }
        else { s.est with battery := b, q := q, reserve := q * 1000 / (b.capacity * 3600000) }
      exec (.profileWriteBattery dt ⟨false, tag, w.field⟩) s = .next
        (State.answered { s.taken dt with est := e } 0x31 tag (if b = w then .ok else .clamped) b.field)

/-- R45, R53, R54, R55 and R58: a write to a tier replaces its settings after the clamps. A change of measure starts the tier
afresh; without one the tier keeps its state, count and confirming value, but that setting or clearing its suppress flag while
SHORE or IGN is asserted puts it in SUPPRESSED or in CLEAR. The other records are untouched, the depth is formed again, and no
notice is set. -/
def Obligations.TierWriteKeepsOrRestartsTheTier : Prop :=
  ∀ (dt : Nat) (tag : Byte) (s : State) (k : Fin 4) (w : TierSettings), s.Hears → s.TierLaw →
    s.power.install.deb = true → s.isSaving = false →
    w.falling < 65536 → w.rising < 65536 → w.confirm < 256 → w.release < 256 →
      let source := s.power.shore.deb || s.power.ign.deb
      let old := s.tiers.recs[k.val]
      ∃ t, exec (.profileWriteTiers dt ⟨false, tag, u8 (k.val + 1) ++ w.field⟩) s = .next t ∧
        t.tiers.recs[k.val].cfg = w.clamp ∧
        (∀ j : Fin 5, j.val ≠ k.val → t.tiers.recs[j] = s.tiers.recs[j]) ∧
        (w.measure ≠ old.cfg.measure → t.tiers.recs[k.val].streak = 0 ∧ t.tiers.recs[k.val].conf = none ∧
          t.tiers.recs[k.val].st =
            if w.measure = .off then .disabled else if w.suppress && source then .suppressed else .clear) ∧
        (w.measure = old.cfg.measure → t.tiers.recs[k.val].conf = old.conf) ∧
        (w.measure = old.cfg.measure → source = false ∨ w.suppress = old.cfg.suppress ∨ w.measure = .off →
          t.tiers.recs[k.val].st = old.st ∧ t.tiers.recs[k.val].streak = old.streak) ∧
        (w.measure = old.cfg.measure → w.measure ≠ .off → source = true → w.suppress ≠ old.cfg.suppress →
          t.tiers.recs[k.val].streak = 0 ∧
          t.tiers.recs[k.val].st = if w.suppress then .suppressed else .clear) ∧
        t.tiers.depth = depthOf t.tiers.recs ∧
        (∀ i : Ch, s.chans[i].Keeps t.chans[i]) ∧ t.holds = s.holds ∧
        State.Spares { s with tiers := t.tiers } t ∧
        t.Replies 0x31 tag (if w.clamp = w then .ok else .clamped) (u8 (k.val + 1) ++ w.clamp.field)

/-- R66, R67, R69, R70, R99 and R126: a write of one load record stores it after the clamps. A channel made not fitted loses its
demand, mark, force, hold entry and trip history and its output, and keeps its usage; a channel made fitted starts with demand
OFF; a change to EXEMPT clears the mark; otherwise the channel's own state stands. -/
def Obligations.LoadWriteActsOnItsChannel : Prop :=
  ∀ (dt : Nat) (tag : Byte) (s : State) (i : Ch) (w : LoadSettings), s.Hears → s.OutputLaw →
    s.power.install.deb = true → s.isSaving = false →
    w.shedTier < 256 → w.limit < 65536 → w.tripCount < 256 → w.blanking < 256 → w.retryCount < 256 →
    w.retryDelay < 256 → w.minOn < 65536 → w.minOff < 65536 → w.openLevel < 65536 →
      let old := s.chans[i]
      ∃ t, exec (.profileWriteLoads dt ⟨false, tag, u8 (i.val + 1) ++ w.field⟩) s = .next t ∧
        t.chans[i].cfg = w.clamp ∧ t.chans[i].usage = old.usage ∧
        (∀ j : Ch, j ≠ i → s.chans[j].Keeps t.chans[j]) ∧
        (old.cfg.fitted = true → w.fitted = false →
          t.chans[i].demand = false ∧ t.chans[i].mark = none ∧ t.chans[i].force = .none ∧ t.chans[i].prot = .normal ∧
          t.chans[i].retries = 0 ∧ t.chans[i].retryEnd = none ∧ t.chans[i].out = false ∧
          (∀ e ∈ t.holds, e.ch ≠ i) ∧ (old.out = true → t.chans[i].lastOff = ⟨.demand, 0⟩)) ∧
        (old.cfg.fitted = false → w.fitted = true →
          t.chans[i].demand = false ∧ t.chans[i].prot = .normal ∧ t.chans[i].retries = 0) ∧
        (old.cfg.fitted = w.fitted → t.chans[i].demand = old.demand ∧ t.chans[i].prot = old.prot ∧
          t.chans[i].retries = old.retries ∧ t.chans[i].force = old.force) ∧
        (old.cfg.cls ≠ .exempt → w.cls = .exempt → t.chans[i].mark = none) ∧
        (∀ e ∈ s.holds, e.ch ≠ i → e ∈ t.holds) ∧
        State.Spares { s with notices := t.notices } t ∧
        t.Replies 0x31 tag (if w.clamp = w then .ok else .clamped) (u8 (i.val + 1) ++ w.clamp.field)

/-- R33 and R32: a write to CURVE stores its points at consecutive indices, drops those above index 15, clamps each value and
forms the validity again, by which every voltage lies below the next and no reserve above the next; no charge and no flag of the
estimate changes. -/
def Obligations.CurveWriteStoresPoints : Prop :=
  ∀ (dt : Nat) (tag start : Byte) (s : State) (pts : List CurvePoint), s.Hears → s.power.install.deb = true →
    s.isSaving = false → 1 ≤ pts.length → pts.length ≤ 13 → (∀ p ∈ pts, p.mv < 65536 ∧ p.reserve < 65536) →
      let kept := (pts.take (16 - start.toNat)).map fun p =>
        (⟨clampNat 8000 32000 p.mv, clampNat 0 1000 p.reserve⟩ : CurvePoint)
      ∃ curve : Vector CurvePoint 16,
        exec (.profileWriteCurve dt ⟨false, tag, start :: pts.flatMap CurvePoint.field⟩) s = .next
          (State.answered
            { s.taken dt with est :=
                { s.est with
                  curve := curve
                  curveValid := decide (∀ k : Fin 15,
                    curve[k.val].mv < curve[k.val + 1].mv ∧ curve[k.val].reserve ≤ curve[k.val + 1].reserve) } } 0x31 tag
            (if kept = pts then .ok else .clamped)
            ([start] ++ u8 kept.length ++ kept.flatMap CurvePoint.field)) ∧
        ∀ k : Fin 16, curve[k] =
          if start.toNat ≤ k.val then (kept[k.val - start.toNat]?).getD s.est.curve[k] else s.est.curve[k]

/-- R100, R166 and R139: writes to SEQUENCE, COUNTERS and DOZE store their clamped values. A change of the SEQUENCE settings by
which the settle time has passed ends SETTLE, when no record is PENDING; a counter keeps its value through a change of its
selector. -/
def Obligations.SequenceCountersAndDozeAreWritten : Prop :=
  ∀ (dt : Nat) (tag : Byte) (s : State), s.Hears → s.isSaving = false →
    (∀ w : SequenceSettings, s.power.install.deb = true → w.shedSpacing < 65536 → w.restoreSpacing < 65536 →
      w.settleTime < 65536 →
        let c : SequenceSettings :=
          ⟨clampNat 5 300 w.shedSpacing, clampNat 10 1200 w.restoreSpacing, clampNat 10 300 w.settleTime⟩
        ∃ t, exec (.profileWriteSequence dt ⟨false, tag, w.field⟩) s = .next t ∧ t.seq.cfg = c ∧ t.holds = s.holds ∧
          (∀ i : Ch, s.chans[i].Keeps t.chans[i]) ∧ State.Spares { s with seq := { s.seq with cfg := c } } t ∧
          (∀ from' : Nat, c ≠ s.seq.cfg → s.seq.settleStart = some from' →
            from' + c.settleTime * (100 * Config.unitsPerMs) ≤ s.now + dt →
            (∀ k : Fin 5, s.tiers.recs[k].st ≠ .pending) → t.seq.st ≠ .settle) ∧
          t.Replies 0x31 tag (if c = w then .ok else .clamped) c.field) ∧
    (∀ (j : Fin 8) (kind : EventKind) (qualifier : Nat) (inhibit visible : Bool), qualifier < 256 →
      let stored : Selector := ⟨kind, if qualifier ≤ kind.topQualifier then qualifier else 0, inhibit, visible⟩
      exec (.profileWriteCounters dt
        ⟨false, tag, u8 (j.val + 1) ++ u8 kind.code ++ u8 qualifier ++ u8 (bitIf inhibit 1 + bitIf visible 2)⟩) s = .next
        (State.answered
          { s.taken dt with tally := Vector.ofFn fun k : Fin 8 =>
              if k = j then { s.tally[k] with sel := stored } else s.tally[k] } 0x31 tag
          (if stored.qualifier = qualifier then .ok else .clamped) (u8 (j.val + 1) ++ stored.field))) ∧
    (∀ (auto : Bool) (delay : Byte),
      exec (.profileWriteDoze dt ⟨false, tag, u8 (bitIf auto 1) ++ [delay]⟩) s = .next
        (State.answered
          { s.taken dt with power := { s.power with cfg := ⟨auto, max 1 delay.toNat⟩ } } 0x31 tag
          (if delay = 0 then .clamped else .ok) (u8 (bitIf auto 1) ++ u8 (max 1 delay.toNat))))

/-- R94 and R95: MOVE places its channel at the clamped position and leaves the other channels in their order; no channel's
own state but its output and mark can change. Where no marking, no step and no new sequencer state was due before it, MOVE
changes the order and the reply and nothing else. -/
def Obligations.MovePlacesTheChannel : Prop :=
  ∀ (dt : Nat) (tag q : Byte) (s : State) (i : Ch), s.Hears → s.OrderLaw → s.isSaving = false →
    let place := clampNat 1 24 q.toNat
    ∃ t, exec (.move dt ⟨false, tag, u8 (i.val + 1) ++ [q]⟩) s = .next t ∧
      t.seq.order[place - 1]? = some i ∧
      t.seq.order.filter (fun j => decide (j ≠ i)) = s.seq.order.filter (fun j => decide (j ≠ i)) ∧
      t.seq.order.length = 24 ∧
      (∀ j : Ch, s.chans[j].Keeps t.chans[j]) ∧ t.holds = s.holds ∧
      State.Spares { s with seq := { s.seq with order := t.seq.order } } t ∧
      (s.OutputLaw → (s.elapse dt).reconsider = s.elapse dt →
        t = { s.taken dt with seq := { s.seq with order := t.seq.order }, link := t.link }) ∧
      t.Replies 0x32 tag (if place = q.toNat then .ok else .clamped)
        (u8 (i.val + 1) ++ u8 place ++ t.seq.order.flatMap fun j => u8 (j.val + 1))

/-- R173 and R174: SAVE gathers the live sections, counts an erase and leaves the image invalid until the end of the
save, which records the outcome and latches STORE; during a save SAVE is refused with BUSY, and at 10,000 erases with
WORN. The characters under the image's CRC are the model's choice (notes/assumptions/7.md). -/
def Obligations.SaveGathersAndEnds : Prop :=
  ∀ (dt : Nat) (tag : Byte) (good : Bool) (s : State),
    (s.Hears → s.isSaving = true → exec (.save dt ⟨false, tag, []⟩) s = .next ((s.taken dt).answered 0x33 tag .busy [])) ∧
    (s.Hears → s.isSaving = false → 10000 ≤ s.store.eraseCount →
      exec (.save dt ⟨false, tag, []⟩) s = .next ((s.taken dt).answered 0x33 tag .worn [])) ∧
    (s.Hears → s.isSaving = false → s.store.eraseCount < 10000 →
      exec (.save dt ⟨false, tag, []⟩) s = .next (State.answered
        { s.taken dt with store :=
            { s.store with image := none, eraseCount := s.store.eraseCount + 1, saving := some s.gather } }
        0x33 tag .ok [])) ∧
    (∀ p : Profile, s.inReset = none → s.store.saving = some p → ∃ t, exec (.saveEnd dt good) s = .next t ∧
      t = { s with now := s.now + dt, notices := t.notices, store :=
              { s.store with
                image := if good then some ⟨1, p, crc16 (u8 1 ++ p.field)⟩ else none
                saving := none
                outcome := if good then .done else .failed } } ∧
      t.notices.latch = s.notices.latch ||| 0b100000000 ∧ t.notices.mask = s.notices.mask ∧
      t.notices.ackMark = s.notices.ackMark)

/-- R175: with INSTALL asserted and no save in progress, LOAD_DEFAULTS gives every owner its factory section; a change
of capacity rescales Q, the counters keep their values, and the store is left as it is. That
the events of the handing out meet the new selectors is the model's choice (notes/assumptions/17.md). -/
def Obligations.LoadDefaultsHandsOutTheFactoryProfile : Prop :=
  ∀ (dt : Nat) (tag : Byte) (s : State), s.Hears → s.power.install.deb = true → s.isSaving = false →
    ∃ t, exec (.loadDefaults dt ⟨false, tag, []⟩) s = .next t ∧ t.gather = factoryProfile ∧
      t.est.q = (if s.est.battery.capacity = 100 then s.est.q
        else s.est.q * (100 * 3600000) / (s.est.battery.capacity * 3600000)) ∧
      t.est.st = s.est.st ∧ t.est.unconfirmed = s.est.unconfirmed ∧ t.est.window = s.est.window ∧
      t.scanner = s.scanner ∧ t.store = s.store ∧ t.power.st = s.power.st ∧ t.notices.mask = 0 ∧
      (∀ i : Ch, t.chans[i].usage = s.chans[i].usage ∧
        (s.chans[i].cfg.fitted = true → t.chans[i].demand = s.chans[i].demand ∧ t.chans[i].prot = s.chans[i].prot ∧
          t.chans[i].force = s.chans[i].force)) ∧
      (∀ k : Fin 8, t.tally[k].sel = ⟨.none, 0, false, true⟩ ∧
        (s.CeilingLaw → t.tally[k].value = s.tally[k].value)) ∧
      t.Replies 0x34 tag .ok []

/-- R38: with INSTALL asserted and no save in progress, outside START, SET_CHARGE sets Q from a reserve clamped to 1,000 or to the
full charge, forms the reserve again and clears the unconfirmed flag; in START it is refused with NOT_APPLICABLE. -/
def Obligations.SetChargeSetsCharge : Prop :=
  ∀ (dt : Nat) (tag hi lo : Byte) (s : State), s.Hears → s.power.install.deb = true → s.isSaving = false →
    let u := s.taken dt
    let full := s.est.battery.capacity * 3600000
    let v := min 1000 (be16 hi.toNat lo.toNat)
    let set : Nat → Estimator := fun q =>
      { s.est with q := q, unconfirmed := false, reserve := q * 1000 / full }
    (s.est.st = .start →
      exec (.setChargeReserve dt ⟨false, tag, [hi, lo]⟩) s = .next (u.answered 0x35 tag .notApplicable []) ∧
      exec (.setChargeFull dt ⟨false, tag, [hi, lo]⟩) s = .next (u.answered 0x35 tag .notApplicable [])) ∧
    (s.est.st ≠ .start →
      exec (.setChargeReserve dt ⟨false, tag, [hi, lo]⟩) s = .next
        (State.answered { u with est := set (v * full / 1000) } 0x35 tag
          (if be16 hi.toNat lo.toNat ≤ 1000 then .ok else .clamped)
          (u32 (v * full / 1000) ++ u16 (v * full / 1000 * 1000 / full))) ∧
      exec (.setChargeFull dt ⟨false, tag, [hi, lo]⟩) s = .next
        (State.answered { u with est := set full } 0x35 tag .ok (u32 full ++ u16 (full * 1000 / full))))

/-! ### What each command does: the power state and the resets -/

/-- R137, R138 and R143: outside a save and with no force, DOZE enters DOZE and counts a DOZE_ENTRY; during a save it
is refused with BUSY, and with a force with NOT_APPLICABLE. RESTART is answered OK, and its reply carries the warm
reset after it. The count of a DOZE in DOZE, the power state that the NOT_APPLICABLE refusal carries and the absent payload of
BUSY are the model's reading (notes/assumptions/22.md, 16.md). -/
def Obligations.DozeAndRestartAreServed : Prop :=
  ∀ (dt : Nat) (tag : Byte) (s : State), s.Hears →
    let u := s.taken dt
    (s.isSaving = true → exec (.doze dt ⟨false, tag, []⟩) s = .next (u.answered 0x40 tag .busy [])) ∧
    (s.isSaving = false → (∃ i : Ch, s.chans[i].force ≠ .none) →
      exec (.doze dt ⟨false, tag, []⟩) s = .next (u.answered 0x40 tag .notApplicable
        [if s.power.st = .doze then 1 else 0])) ∧
    (s.isSaving = false → (∀ i : Ch, s.chans[i].force = .none) → (∀ k : Fin 8, s.tally[k].value ≤ Config.totalMax) →
      exec (.doze dt ⟨false, tag, []⟩) s = .next (State.answered
        { u with
          power := { s.power with st := .doze }
          tally := Vector.ofFn fun k : Fin 8 =>
            if s.tally[k].sel.kind = .dozeEntry ∧ s.tally[k].sel.qualifier = 0 ∧ s.tally[k].sel.inhibit = false
            then { s.tally[k] with value := min Config.totalMax (s.tally[k].value + 1) } else s.tally[k] }
        0x40 tag .ok [1])) ∧
    ∃ t, exec (.restart dt ⟨false, tag, []⟩) s = .next t ∧
      t = { u with link := { u.link with reply := some ⟨0xC1, tag, .ok, [],
        s.now + dt + 22 * s.power.bitTime + s.power.bitTime / 2, true⟩ } }

/-- R142, R91, R134, R144 and R164: each of the three outside sources begins a reset, or prolongs the one in progress,
in which it is recorded. A power-on finds no force. That a power-on which prolongs a reset takes back the force found
is the model's reading (notes/assumptions/18.md), and so is that the blocks which no rule names stand as they were while the
reset lasts (notes/assumptions/26.md). -/
def Obligations.EachSourceBeginsOrProlongsAReset : Prop :=
  ∀ (dt : Nat) (s : State),
    let u := { s with now := s.now + dt }
    let found := channels.any fun i => decide (s.chans[i].force ≠ Force.none)
    (s.inReset = none →
      (∃ t, exec (.powerOn dt) s = .next t ∧ u.Halts t ⟨true, false, false, false⟩) ∧
      (∃ t, exec (.supplyLow dt) s = .next t ∧ u.Halts t ⟨false, true, false, found⟩) ∧
      (∃ t, exec (.rstn dt) s = .next t ∧ u.Halts t ⟨false, false, true, found⟩)) ∧
    (∀ r : ResetInfo, s.inReset = some r →
      exec (.powerOn dt) s = .next { u with inReset := some { r with powerOn := true, foundForce := false } } ∧
      exec (.supplyLow dt) s = .next { u with inReset := some { r with supply := true } } ∧
      exec (.rstn dt) s = .next { u with inReset := some { r with pin := true } })

/-- R146 with R16, R41, R42, R64, R91, R92, R112, R120, R142, R145, R155, R164, R165, R168 and R176: the end of a reset. The
reset is cold when power-on or the supply monitor acted. From a valid image of format 1 whose CRC matches every owner takes its
section, clamped, with the factory order for an ORDER that is no permutation; otherwise every owner takes its factory section and
STORE is latched beside RESTART. Usage, demand, tallies and charge are kept through a warm reset alone, with Q rescaled to a
changed capacity, and the events of the reset's end are counted under the new selectors. Every load that may be shed and has
demand ON is marked, and the outputs that are on are those of EXEMPT channels with demand ON. The characters under the image's
CRC are the model's choice (notes/assumptions/7.md). -/
def Obligations.TheEndOfAResetTakesUpWork : Prop :=
  ∀ (dt : Nat) (adr : BitVec 4) (br : BitVec 2) (s : State) (r : ResetInfo), s.inReset = some r →
    let cold := r.powerOn || r.supply
    ∃ t, exec (.resetEnd dt adr br) s = .next t ∧
      (t.inReset = none ∧ t.now = s.now + dt ∧ t.power.st = .run ∧ t.power.lastExit = t.now ∧ t.power.adr = adr ∧
        t.power.br = br ∧ t.power.cause = (if r.powerOn then .powerOn else if r.supply then .supplyLow else
          if r.pin then .pin else .request) ∧
        t.power.shore = ⟨s.power.shore.raw, s.power.shore.raw, none⟩ ∧
        t.power.ign = ⟨s.power.ign.raw, s.power.ign.raw, none⟩ ∧
        t.power.install = ⟨s.power.install.raw, s.power.install.raw, none⟩) ∧
      (s.store.image = none → t.gather = factoryProfile ∧ t.store.source = .factory ∧
        t.notices.latch = 0b100000001) ∧
      (∀ im : Image, s.store.image = some im →
        let p := im.sections
        let passes := im.format = 1 ∧ im.crc = crc16 (u8 im.format ++ p.field)
        (¬passes → t.gather = factoryProfile ∧ t.store.source = .factory ∧ t.notices.latch = 0b100000001) ∧
        (passes → t.store.source = .store ∧ t.est.battery = p.battery.clamp ∧
          (∀ k : Fin 5, t.tiers.recs[k].cfg = TierSettings.clamp
            (if k = 4 then { p.tiers[k] with measure := .voltage, suppress := false } else p.tiers[k])) ∧
          (∀ i : Ch, t.chans[i].cfg = p.loads[i].clamp) ∧
          t.seq.order = (if ∀ i : Ch, p.order.count i = 1 then p.order else channels) ∧
          (∀ k : Fin 16, t.est.curve[k] = p.curve[k].clamp) ∧ t.seq.cfg = p.sequence.clamp ∧
          t.notices.mask = p.masks ∧ (∀ k : Fin 8, t.tally[k].sel = p.counters[k].clamp) ∧
          t.power.cfg = p.doze.clamp)) ∧
      (t.store.source = .store → t.notices.latch = 0b000000001) ∧
      (t.store.image = s.store.image ∧ t.store.eraseCount = s.store.eraseCount ∧ t.store.saving = none ∧
        t.store.outcome = .none ∧ t.notices.ackMark = 0) ∧
      (t.scanner.record = none ∧ t.scanner.number = 0 ∧ t.scanner.senseFault = false ∧
        t.scanner.inFlight = some ⟨.run, Vector.ofFn fun i : Ch => t.chans[i].cfg.fitted, t.now⟩ ∧
        t.scanner.timer = some (t.now + 100 * Config.unitsPerMs)) ∧
      (t.est.st = .start ∧ t.est.window = [] ∧ t.est.averaged = 0 ∧ t.est.compensated = 0 ∧ t.est.restTimer = 0 ∧
        t.est.fullTimer = 0 ∧ t.est.fullLatched = false ∧ t.est.seedPending = (cold || s.est.seedPending) ∧
        t.est.unconfirmed = (cold || s.est.unconfirmed) ∧ (cold = true → t.est.q = 0) ∧
        (cold = false → t.est.battery.capacity = s.est.battery.capacity → t.est.q = s.est.q) ∧
        (cold = false → t.est.battery.capacity ≠ s.est.battery.capacity →
          t.est.q = s.est.q * (t.est.battery.capacity * 3600000) / (s.est.battery.capacity * 3600000)) ∧
        t.est.reserve = t.est.q * 1000 / (t.est.battery.capacity * 3600000) ∧
        t.est.curveValid = decide (∀ k : Fin 15, t.est.curve[k.val].mv < t.est.curve[k.val + 1].mv ∧
          t.est.curve[k.val].reserve ≤ t.est.curve[k.val + 1].reserve)) ∧
      ((∀ k : Fin 5, t.tiers.recs[k].streak = 0 ∧ t.tiers.recs[k].conf = none ∧ t.tiers.recs[k].st =
          if t.tiers.recs[k].cfg.measure = .off then .disabled
          else if t.tiers.recs[k].cfg.suppress && (s.power.shore.raw || s.power.ign.raw) then .suppressed
          else .clear) ∧ t.tiers.depth = 0) ∧
      (∀ i : Ch,
        let c := t.chans[i]
        let marked := c.demand && decide (c.cfg.cls ≠ .exempt)
        c.demand = (c.cfg.fitted && if cold then c.cfg.startDemand else s.chans[i].demand) ∧
        c.mark = (if marked then some ⟨.reset, 0⟩ else none) ∧
        c.lastOff = (if marked then ⟨.reset, 0⟩ else ⟨.none, 0⟩) ∧
        c.out = (c.demand && decide (c.cfg.cls = .exempt)) ∧ c.prot = .normal ∧ c.retries = 0 ∧
        c.force = .none ∧ c.usage = (if cold then 0 else s.chans[i].usage)) ∧
      (t.seq.st = .settle ∧ t.seq.lastStep = none ∧ t.seq.settleStart = none ∧ t.holds = []) ∧
      (t.link.rx = .wait ∧ t.link.reply = none ∧ t.link.counts = ⟨0, 0, 0, 0, 0, 0, 0, 0, 0⟩ ∧
        t.link.quietStart = t.now) ∧
      (cold = true → ∀ k : Fin 8, t.tally[k].sel.kind = .none → t.tally[k].value = 0) ∧
      (s.CeilingLaw → ∀ k : Fin 8,
        let sel := t.tally[k].sel
        let events : Nat :=
          if sel.inhibit then 0
          else if sel.kind = .forceLapse then (if r.foundForce = true ∧ sel.qualifier = 0 then 1 else 0)
          else if sel.kind = .switchOn then channels.countP fun i =>
            t.chans[i].out && (decide (sel.qualifier = 0) || decide (sel.qualifier = i.val + 1))
          else 0
        t.tally[k].value = min Config.totalMax ((if cold then 0 else s.tally[k].value) + events))

/-! ### What each command does: the line -/

/-- R141, R143, R147 and R154: a fall outside a character. It drops the reply in preparation, counted as DROPPED, ends
DOZE, and begins a character when at least two samples of its start bit read space, which stops the gap timer. With a
RESTART's reply it begins the warm reset at that drop. A fall within the character in reception, or within the start bit of a
false start, begins nothing. What a false start does and when its start bit has been read are the model's reading
(notes/assumptions/13.md), and so are the blocks that stand through a reset (notes/assumptions/26.md). -/
def Obligations.AStartBitBeginsACharacter : Prop :=
  ∀ (dt : Nat) (x : Sample3) (s : State), s.inReset = none → s.link.rx ≠ .send →
    let now := s.now + dt
    let bit := s.power.bitTime
    let fresh := s.link.charFall = none ∧ ∀ e, s.link.falseEnd = some e → e ≤ now
    let space := !((x.s7 && x.s8) || (x.s7 && x.s9) || (x.s8 && x.s9))
    let counts := { s.link.counts with
      dropped := if s.link.reply.isSome then min 65535 (s.link.counts.dropped + 1) else s.link.counts.dropped }
    let link := { s.link with
      reply := none
      counts := counts
      charFall := if space then some now else none
      charNoise := space && !(x.s7 == x.s8 && x.s8 == x.s9)
      spaceFall := none
      falseEnd := if space then none else some (now + 9 * (bit / 16))
      gapEnd := if space then none else s.link.gapEnd }
    ((∃ fall, s.link.charFall = some fall ∧ now < fall + 10 * bit + bit / 2) ∨ (∃ e, s.link.falseEnd = some e ∧ now < e) →
      exec (.startBit dt x) s = .next { s with now := now }) ∧
    (fresh → s.link.reply.any Reply.thenReset = false → s.power.st = .run →
      exec (.startBit dt x) s = .next { s with now := now, link := link }) ∧
    (fresh → s.link.reply.any Reply.thenReset = false → s.power.st = .doze → ∃ t, exec (.startBit dt x) s = .next t ∧
      t.link = link ∧ t.power = { s.power with st := .run, lastExit := now } ∧
      (s.scanner.inFlight = none → t.scanner = { s.scanner with
        inFlight := some ⟨.run, Vector.ofFn fun i : Ch => s.chans[i].cfg.fitted, now⟩
        timer := some (now + 100 * Config.unitsPerMs) }) ∧
      (s.scanner.inFlight.isSome = true → t.scanner = { s.scanner with timer := none }) ∧
      (∀ i : Ch, t.chans[i] = { s.chans[i] with onBefore := t.chans[i].onBefore }) ∧
      t.est = s.est ∧ t.tiers = s.tiers ∧ t.seq = s.seq ∧ t.holds = s.holds ∧ t.notices = s.notices ∧
      t.tally = s.tally ∧ t.store = s.store) ∧
    (fresh → s.link.reply.any Reply.thenReset = true → ∃ t, exec (.startBit dt x) s = .next t ∧
      State.Halts { s with now := now } t
        ⟨false, false, false, channels.any fun i => decide (s.chans[i].force ≠ Force.none)⟩)

/-- R147, R148, R149, R150 and R152: a character is taken at the middle of its stop bit. An address that names this unit or is
broadcast begins a frame, and in COLLECT abandons the one in collection with SHORT; a data character joins the frame in
COLLECT; LEN below 2 or above 58 abandons it with LENGTH; a stop bit at space discards the character with FRAMING; and any other
character is ignored in WAIT. A noisy character counts NOISE once. Nothing but the link changes. -/
def Obligations.CharactersAreTakenByTheReceiverState : Prop :=
  ∀ (dt fall : Nat) (d : Byte) (c : CharSamples) (s : State), s.inReset = none → s.link.charFall = some fall →
    fall + 10 * s.power.bitTime + s.power.bitTime / 2 ≤ s.now + dt → (∀ k : Fin 8, majority c.data[k] = d[k]) →
      let noisyBits := s.link.charNoise || (c.data.toList ++ [c.mark, c.stop]).any fun b =>
        !(b.s7 == b.s8 && b.s8 == b.s9)
      let k := { s.link.counts with
        noise := if noisyBits then min 65535 (s.link.counts.noise + 1) else s.link.counts.noise }
      let base := { s.link with charFall := none, charNoise := false, counts := k }
      let gap := s.now + dt + s.power.bitTime / 2 + 33 * s.power.bitTime
      let mine : Bool := d.toNat = 0 ∨ d.toNat = s.power.adr.toNat + 1
      let becomes : Link → Prop := fun l => exec (.characterTaken dt c) s = .next { s with now := s.now + dt, link := l }
      (majority c.stop = false → s.link.rx ≠ .send → becomes
        { base with rx := .wait, buffer := [], gapEnd := none, spaceFall := some fall
                    counts := { k with framing := min 65535 (k.framing + 1) } }) ∧
      (majority c.stop = true → s.link.rx = .wait → majority c.mark = true → mine = true → becomes
        { base with rx := .collect, buffer := [d], gapEnd := some gap }) ∧
      (majority c.stop = true → s.link.rx = .wait → (majority c.mark = false ∨ mine = false) → becomes base) ∧
      (majority c.stop = true → s.link.rx = .collect → majority c.mark = true → becomes
        { base with
          rx := if mine then .collect else .wait
          buffer := if mine then [d] else []
          gapEnd := if mine then some gap else none
          counts := { k with short := min 65535 (k.short + 1) } }) ∧
      (majority c.stop = true → s.link.rx = .collect → majority c.mark = false → s.link.buffer.length = 1 →
        (2 ≤ d.toNat ∧ d.toNat ≤ 58 → becomes { base with buffer := s.link.buffer ++ [d], gapEnd := some gap }) ∧
        (¬(2 ≤ d.toNat ∧ d.toNat ≤ 58) → becomes
          { base with rx := .wait, buffer := [], gapEnd := none
                      counts := { k with length := min 65535 (k.length + 1) } })) ∧
      (∀ len : Byte, majority c.stop = true → s.link.rx = .collect → majority c.mark = false →
        s.link.buffer[1]? = some len → s.link.buffer.length + 1 < len.toNat + 4 →
          becomes { base with buffer := s.link.buffer ++ [d], gapEnd := some gap })

/-- R151, R152, R153, R154, R156 and R171: the last character of a frame whose CRC matches does what the command of its KIND, and of
its section or selector, does. A KIND that the table does not list is answered BAD_KIND, with a KIND at or above 0x80 returned as
it stands; a PROFILE_WRITE with no section BAD_LENGTH, and one to any section that cannot be written BAD_VALUE; a SET_CHARGE of
another length BAD_LENGTH, and with another selector BAD_VALUE. A frame whose CRC does not match is abandoned and counted as CRC.
That the noise of the last character is counted first is the model's choice (notes/assumptions/27.md). -/
def Obligations.AFrameOnTheLineIsItsCommand : Prop :=
  ∀ (dt fall : Nat) (a tag d : Byte) (payload : List Byte) (c : CharSamples) (s : State), s.Hears →
    s.link.rx = .collect → s.link.charFall = some fall →
    fall + 10 * s.power.bitTime + s.power.bitTime / 2 ≤ s.now + dt →
    (∀ k : Fin 8, majority c.data[k] = d[k]) → majority c.mark = false → majority c.stop = true →
      let u := { s with link := { s.link with counts := { s.link.counts with
        noise := if s.link.charNoise || noisy c then min 65535 (s.link.counts.noise + 1)
          else s.link.counts.noise } } }
      let carries : Byte → List Byte → Prop := fun kind body => body.length ≤ 56 ∧
        s.link.buffer ++ [d] = [a, BitVec.ofNat 8 (body.length + 2), kind, tag] ++ body ++
          u16 (crc16 ([a, BitVec.ofNat 8 (body.length + 2), kind, tag] ++ body)).toNat
      let r : Req := ⟨decide (a = 0), tag, payload⟩
      (∀ x ∈ [((0x01 : Byte), Instr.ident dt r), (0x02, .status dt r), (0x03, .loadStatus dt r), (0x04, .linkStatus dt r),
          (0x05, .countersRead dt r), (0x06, .measure dt r), (0x10, .switch dt r), (0x11, .hold dt r),
          (0x12, .releaseHold dt r), (0x13, .force dt r), (0x14, .clearTrip dt r), (0x15, .clearUsage dt r),
          (0x20, .ack dt r), (0x21, .mask dt r), (0x22, .countersClear dt r), (0x23, .clearLinkCounts dt r),
          (0x30, .profileRead dt r), (0x32, .move dt r), (0x33, .save dt r), (0x34, .loadDefaults dt r),
          (0x40, .doze dt r), (0x41, .restart dt r)],
        carries x.1 payload → exec (.characterTaken dt c) s = exec x.2 u) ∧
      (∀ x ∈ [((1 : Byte), Instr.profileWriteBattery dt r), (2, .profileWriteTiers dt r), (3, .profileWriteLoads dt r),
          (5, .profileWriteCurve dt r), (6, .profileWriteSequence dt r), (7, .profileWriteNotice dt r),
          (8, .profileWriteCounters dt r), (9, .profileWriteDoze dt r)],
        carries 0x31 (x.1 :: payload) → exec (.characterTaken dt c) s = exec x.2 u) ∧
      (carries 0x35 (0 :: payload) → exec (.characterTaken dt c) s = exec (.setChargeReserve dt r) u) ∧
      (carries 0x35 (1 :: payload) → exec (.characterTaken dt c) s = exec (.setChargeFull dt r) u) ∧
      (∀ kind : Byte, carries kind payload → kind.toNat ∉ [0x01, 0x02, 0x03, 0x04, 0x05, 0x06, 0x10, 0x11, 0x12, 0x13, 0x14,
          0x15, 0x20, 0x21, 0x22, 0x23, 0x30, 0x31, 0x32, 0x33, 0x34, 0x35, 0x40, 0x41] →
        let v := u.taken dt
        let reply : Reply := ⟨if kind.toNat < 0x80 then kind.toNat + 0x80 else kind.toNat, tag, .badKind, [],
          v.now + 22 * v.power.bitTime + v.power.bitTime / 2, false⟩
        exec (.characterTaken dt c) s = .next (if a = 0 then v else { v with link := { v.link with reply := some reply } })) ∧
      (∀ sec : Byte, a ≠ 0 → carries 0x31 (sec :: payload) → sec.toNat ∉ [1, 2, 3, 5, 6, 7, 8, 9] →
        exec (.characterTaken dt c) s = .next ((u.taken dt).answered 0x31 tag .badValue [])) ∧
      (a ≠ 0 → carries 0x31 [] →
        exec (.characterTaken dt c) s = .next ((u.taken dt).answered 0x31 tag .badLength [])) ∧
      (∀ body : List Byte, a ≠ 0 → carries 0x35 body → body.length ≠ 3 →
        exec (.characterTaken dt c) s = .next ((u.taken dt).answered 0x35 tag .badLength [])) ∧
      (∀ sel hi lo : Byte, a ≠ 0 → carries 0x35 [sel, hi, lo] → 2 ≤ sel.toNat →
        exec (.characterTaken dt c) s = .next ((u.taken dt).answered 0x35 tag .badValue [])) ∧
      (∀ len : Byte, s.link.buffer[1]? = some len → 2 ≤ len.toNat → s.link.buffer.length + 1 = len.toNat + 4 →
        (s.link.buffer ++ [d]).drop (len.toNat + 2) ≠
          u16 (crc16 ((s.link.buffer ++ [d]).take (len.toNat + 2))).toNat →
        exec (.characterTaken dt c) s = .next { u with now := s.now + dt, link := { u.link with
          rx := .wait, buffer := [], gapEnd := none, charFall := none, charNoise := false,
          counts := { u.link.counts with crc := min 65535 (s.link.counts.crc + 1) } } })

/-- R153, R138 and R143: a broadcast is never answered, and one whose KIND is not SWITCH, DOZE or RESTART only counts as a good
frame. A broadcast SWITCH or DOZE acts on the part as one addressed to it does. A broadcast RESTART without a payload begins its
reset at once; the blocks that stand through it are the model's choice (notes/assumptions/26.md). -/
def Obligations.BroadcastsAreNeverAnswered : Prop :=
  ∀ (dt : Nat) (tag : Byte) (p : List Byte) (s : State), s.Hears →
    let b : Req := ⟨true, tag, p⟩
    let u := s.taken dt
    (∀ c ∈ [Instr.ident dt b, .status dt b, .loadStatus dt b, .linkStatus dt b, .countersRead dt b, .measure dt b,
        .hold dt b, .releaseHold dt b, .force dt b, .clearTrip dt b, .clearUsage dt b, .ack dt b, .mask dt b,
        .countersClear dt b, .clearLinkCounts dt b, .profileRead dt b, .profileWriteBattery dt b,
        .profileWriteTiers dt b, .profileWriteLoads dt b, .profileWriteCurve dt b, .profileWriteSequence dt b,
        .profileWriteNotice dt b, .profileWriteCounters dt b, .profileWriteDoze dt b, .move dt b, .save dt b,
        .loadDefaults dt b, .setChargeReserve dt b, .setChargeFull dt b],
      exec c s = .next u) ∧
    (∀ c ∈ [(Instr.switch dt b, Instr.switch dt ⟨false, tag, p⟩), (.doze dt b, .doze dt ⟨false, tag, p⟩)],
      ∃ t t' : State, exec c.1 s = .next t ∧ exec c.2 s = .next t' ∧ t = { t' with link := u.link }) ∧
    (p ≠ [] → exec (.restart dt b) s = .next u) ∧
    (p = [] → ∃ t, exec (.restart dt b) s = .next t ∧
      u.Halts t ⟨false, false, false, channels.any fun i => decide (s.chans[i].force ≠ Force.none)⟩)

/-- R148 and R152: a break is counted once at the 22nd bit time and brings the receiver to WAIT; 33 bit times without a fall
abandon the frame in collection and count GAP. -/
def Obligations.BreaksAndGapsEndCollection : Prop :=
  ∀ (dt e : Nat) (s : State), s.inReset = none →
    (s.link.spaceFall = some e → e + 22 * s.power.bitTime ≤ s.now + dt →
      exec (.breakHeld dt) s = .next { s with
        now := s.now + dt
        link := { s.link with
          rx := .wait, buffer := [], gapEnd := none, spaceFall := none
          counts := { s.link.counts with brk := min 65535 (s.link.counts.brk + 1) } } }) ∧
    (s.link.rx = .collect → s.link.gapEnd = some e → e ≤ s.now + dt →
      exec (.gap dt) s = .next { s with
        now := s.now + dt
        link := { s.link with
          rx := .wait, buffer := [], gapEnd := none
          counts := { s.link.counts with gap := min 65535 (s.link.counts.gap + 1) } } })

/-- R143, R147, R150, R151, R154 and R156: the reply goes out from its earliest start, with its CRC, at eleven bit times a
character: on LTX a start bit at space, the data with the least significant bit first, the mark bit, set on the address alone, and
a stop bit at mark. At its end the receiver waits, LTX stands at mark, and the reset of a RESTART begins, in which the blocks that
stand are the model's choice (notes/assumptions/26.md). -/
def Obligations.RepliesGoOutWhole : Prop :=
  ∀ (dt : Nat) (s : State), s.inReset = none →
    (∀ r : Reply, s.link.rx ≠ .send → s.link.reply = some r → r.earliest ≤ s.now + dt →
      let body := u8 (0x81 + s.power.adr.toNat) ++ u8 (3 + r.payload.length) ++ u8 r.kind ++ [r.tag] ++
        u8 r.status.code ++ r.payload
      let frame := body ++ u16 (crc16 body).toNat
      let bit : Nat → Bool := fun k =>
        if k % 11 = 0 then false else if k % 11 = 9 then decide (k / 11 = 0) else if k % 11 = 10 then true
        else ((frame[k / 11]?).map fun d => d.getLsbD (k % 11 - 1)).getD true
      ∃ t, exec (.replyStart dt) s = .next t ∧ t = { s with
        now := s.now + dt
        link := { s.link with
          rx := .send, buffer := [], gapEnd := none, reply := none, charFall := none, charNoise := false
          sending := some
            { chars := ⟨true, BitVec.ofNat 8 (0x81 + s.power.adr.toNat)⟩ :: frame.tail.map fun d => ⟨false, d⟩
              began := s.now + dt
              done := s.now + dt + (r.payload.length + 7) * 11 * s.power.bitTime, thenReset := r.thenReset } } } ∧
        ∀ k rest : Nat, k < 11 * frame.length → rest < s.power.bitTime →
          State.ltx { t with now := t.now + k * s.power.bitTime + rest } = bit k) ∧
    (∀ x : Sending, s.link.rx = .send → s.link.sending = some x → x.done ≤ s.now + dt →
      (x.thenReset = false → exec (.replyEnd dt) s = .next { s with
        now := s.now + dt, link := { s.link with rx := .wait, sending := none } }) ∧
      (x.thenReset = true → ∃ t, exec (.replyEnd dt) s = .next t ∧ State.Halts { s with now := s.now + dt } t
        ⟨false, false, false, channels.any fun i => decide (s.chans[i].force ≠ Force.none)⟩)) ∧
    (s.link.sending = none → s.ltx = true)

/-- R132 and R153: at 5 s of link quiet, handed over once for each quiet period, every force lapses at once. With no force nothing
but the hand-over happens. -/
def Obligations.ForcesLapseAtLinkQuiet : Prop :=
  ∀ (dt : Nat) (s : State), s.inReset = none → s.OutputLaw → s.link.quietHanded = false →
    s.link.quietStart + 5 * Config.unitsPerSecond ≤ s.now + dt →
      let link := { s.link with quietHanded := true }
      ((∀ i : Ch, s.chans[i].force = .none) →
        exec (.linkQuiet dt) s = .next { s with now := s.now + dt, link := link }) ∧
      ∃ t, exec (.linkQuiet dt) s = .next t ∧ t.link = link ∧ t.holds = s.holds ∧ s.Spares t ∧
        ∀ i : Ch, t.chans[i].force = .none ∧ t.chans[i].out = t.chans[i].law ∧ t.chans[i].cfg = s.chans[i].cfg ∧
          t.chans[i].demand = s.chans[i].demand ∧ t.chans[i].prot = s.chans[i].prot ∧
          t.chans[i].usage = s.chans[i].usage

/-! ### What each command does: the scans -/

/-- R2, R3 and R4: with no scan in flight the expiry of the scan timer begins a scan. Its plan holds the fitted
channels in RUN and those of them that are on in DOZE, and the timer starts with the period of that power state. The
flag `onBefore` is the model's own (notes/assumptions/4.md). -/
def Obligations.AScanBeginsWithItsPlan : Prop :=
  ∀ (dt e : Nat) (s : State), s.inReset = none → s.scanner.inFlight = none → s.scanner.timer = some e → e ≤ s.now + dt →
    let now := s.now + dt
    let plan := Vector.ofFn fun i : Ch => s.chans[i].cfg.fitted && (decide (s.power.st = .run) || s.chans[i].out)
    exec (.scanBegin dt) s = .next { s with
      now := now
      chans := Vector.ofFn fun i : Ch => { s.chans[i] with onBefore := s.chans[i].out }
      scanner := { s.scanner with
        inFlight := some ⟨s.power.st, plan, now⟩
        timer := some (now + (if s.power.st = .run then 100 else 1000) * Config.unitsPerMs) } }

/-- R1 and R7 to R14: a scan completes at the end of its last slot. Its record holds the saturated readings, a held value for an
invalid reading, 0 for a channel left out of the plan, and the sense fault, which begins at a run of five invalid samples and ends
when both samples are valid. R140: in RUN, where the test meets the completion after the blocks that it reads, the part is in DOZE
after it exactly when all the conditions hold, and no entry of that completion undoes it (notes/assumptions/3.md). The
reading of a VBS input below zero is a free value of the model, about which nothing is said (notes/assumptions/15.md). -/
def Obligations.AScanCompletesWithItsRecord : Prop :=
  ∀ (dt : Nat) (smp : Samples) (ord : CompletionOrder) (s : State) (f : Scan), s.inReset = none →
    s.scanner.inFlight = some f → f.start + (2 + channels.countP fun i => f.plan[i]) * Config.slotUnits ≤ s.now + dt →
      let v : Int := if smp.vbs < 0 then (Config.vbsBelowZero smp.vbs).toNat else min 32767 smp.vbs
      let a := min 32767 (max (-32768) smp.shunt)
      let vOk := decide (v ≠ 32767)
      let aOk := decide (a ≠ 32767 ∧ a ≠ -32768)
      let vRun := if vOk then 0 else min 255 (s.scanner.vRun + 1)
      let aRun := if aOk then 0 else min 255 (s.scanner.iRun + 1)
      let fault := if s.scanner.senseFault then !(vOk && aOk) else decide (vRun = 5 ∨ aRun = 5)
      ∃ t r, exec (.scanComplete dt smp ord) s = .next t ∧ t.scanner.record = some r ∧
        r.number = (if s.scanner.number = 65535 then 1 else s.scanner.number + 1) ∧ t.scanner.number = r.number ∧
        r.power = f.power ∧ t.scanner.vRun = vRun ∧ t.scanner.iRun = aRun ∧
        r.senseFault = fault ∧ t.scanner.senseFault = fault ∧
        (vOk = true → (r.voltage : Int) = v ∧ r.vStanding = .valid ∧ t.scanner.lastV = some r.voltage) ∧
        (vOk = false → r.voltage = s.scanner.lastV.getD 0 ∧ t.scanner.lastV = s.scanner.lastV ∧
          r.vStanding = if s.scanner.lastV.isSome && decide (vRun ≤ 4) then .held else .lost) ∧
        (aOk = true → r.current = a ∧ r.iStanding = .valid ∧ t.scanner.lastI = some a) ∧
        (aOk = false → r.current = s.scanner.lastI.getD 0 ∧ t.scanner.lastI = s.scanner.lastI ∧
          r.iStanding = if s.scanner.lastI.isSome && decide (aRun ≤ 4) then .held else .lost) ∧
        (∀ i : Ch, (r.currents[i] : Int) = if f.plan[i] then min 4095 (max 0 smp.cs[i]) else 0) ∧
        (ord.testFirst = false → s.power.st = .run →
          t.power = { s.power with st := t.power.st } ∧
          (t.power.st = .doze ↔ s.power.cfg.auto = true ∧
            s.power.cfg.delay * 60 * Config.unitsPerSecond ≤ s.now + dt - s.link.quietStart ∧
            t.est.averaged.natAbs ≤ s.est.battery.restCurrent ∧
            (∀ k : Fin 5, t.tiers.recs[k].st ≠ .pending ∧ t.tiers.recs[k].st ≠ .releasing) ∧
            (∀ i : Ch, s.chans[i].force = .none) ∧ s.isSaving = false ∧ s.link.rx ≠ .collect ∧
            s.power.lastExit + 60 * Config.unitsPerSecond ≤ s.now + dt))

/-- R17 to R31 and R34: what a scan makes of the estimate by the class of its record, in every order that the book leaves open.
A record with the sense fault takes TRACKING to FROZEN and nothing else; one with a LOST quantity yields nothing in START. A sound
record, its values valid or HELD, forms the estimate: outside START Q is integrated, then corrected at rest when the rest timer is
due and the curve is VALID, then set to the full charge when the full condition has lasted; in START a pending seed sets Q
instead. The curve's reserve `res` is the one that the three lines of R34 give. -/
def Obligations.AScanFormsTheEstimate : Prop :=
  ∀ (dt res : Nat) (smp : Samples) (ord : CompletionOrder) (s : State) (f : Scan), s.inReset = none →
    s.scanner.inFlight = some f → f.ends ≤ s.now + dt → s.est.window.length ≤ 8 →
      let e := s.est
      let b := e.battery
      let full := b.capacity * 3600000
      ∃ t r, exec (.scanComplete dt smp ord) s = .next t ∧ t.scanner.record = some r ∧
        let untouched := t.tiers = s.tiers ∧ t.seq.settleStart = s.seq.settleStart
        let lost := r.vStanding = .lost ∨ r.iStanding = .lost
        (0 ≤ smp.vbs → smp.vbs < 32767 → -32768 < smp.shunt → smp.shunt < 32767 →
          r.senseFault = false ∧ ¬lost ∧ (r.voltage : Int) = smp.vbs ∧ r.current = smp.shunt) ∧
        (r.senseFault = true → untouched ∧ t.est = { e with st := if e.st = .tracking then .frozen else e.st }) ∧
        (r.senseFault = false → lost → e.st = .start → untouched ∧ t.est = e) ∧
        (r.senseFault = false → ¬lost →
          let ms : Nat := if r.power = .run then 100 else 1000
          let k : Int := if r.power = .run then 1 else 10
          let window := (if e.window.length = 8 then e.window.drop 1 else e.window) ++ [r.current]
          let average := window.sum.tdiv window.length
          let drop := average * b.resistance
          let rounded := if 0 ≤ drop then (drop + 500) / 1000 else -((-drop + 500) / 1000)
          let comp := (min 32767 (max 0 (r.voltage + rounded))).toNat
          let found : Prop :=
            (comp < e.curve[0].mv → res = e.curve[0].reserve) ∧ (e.curve[15].mv ≤ comp → res = e.curve[15].reserve) ∧
            ∀ n : Fin 15, e.curve[n.val].mv ≤ comp → comp < e.curve[n.val + 1].mv →
              res = e.curve[n.val].reserve + (comp - e.curve[n.val].mv)
                * (e.curve[n.val + 1].reserve - e.curve[n.val].reserve) / (e.curve[n.val + 1].mv - e.curve[n.val].mv)
          let atRest := decide (average.natAbs ≤ b.restCurrent)
          let restDue := atRest && decide (b.restTime * 60000 ≤ e.restTimer + ms)
          let filling := decide (b.fullVoltage ≤ comp ∧ average < 0 ∧ average.natAbs ≤ b.tailCurrent)
          let fullTimer := if e.fullTimer < b.fullHold * 60000 then e.fullTimer + ms else e.fullTimer
          let fullDue := filling && decide (b.fullHold * 60000 ≤ fullTimer) && !e.fullLatched
          let start := decide (e.st = .start)
          let seeded := if e.curveValid then res * full / 1000 else full / 2
          let q0 : Nat := if start then (if e.seedPending then seeded else e.q)
            else (min (full : Int) (max 0 (e.q - r.current * k))).toNat
          let q1 := if restDue && e.curveValid then res * full / 1000 else q0
          let q2 := if fullDue then full else q1
          (start = true → t.seq.settleStart = some (s.now + dt)) ∧
          ((e.curveValid = true → found) → t.est = { e with
            st := .tracking, window := window, averaged := average, compensated := comp, q := q2
            reserve := q2 * 1000 / full
            seedPending := e.seedPending && !start
            unconfirmed := if fullDue || (restDue && e.curveValid) then false
              else e.unconfirmed || (start && e.seedPending)
            restTimer := if atRest && !restDue then e.restTimer + ms else 0
            fullTimer := if filling then fullTimer else 0
            fullLatched := filling && (e.fullLatched || fullDue) }))

/-- R80, R81 and R88, where the Channel Controller takes the record first: a judged channel above its limit counts
towards its trip count; at the trip it goes off with cause TRIP and the current as detail, waits for its retry with
the doubled delay capped at 600 s while retries are left, latches otherwise, and the TRIP notice is set. The tripping
scan still adds to its usage. The flag `onBefore` is the model's own (notes/assumptions/4.md). -/
def Obligations.OvercurrentTripsAChannel : Prop :=
  ∀ (dt : Nat) (smp : Samples) (test : Bool) (s : State) (f : Scan) (i : Ch), s.inReset = none →
    s.scanner.inFlight = some f → f.ends ≤ s.now + dt → f.plan[i] = true → s.LevelLaw →
    s.chans[i].prot = .normal → s.chans[i].out = true → s.chans[i].onBefore = true → s.chans[i].blankEnd = none →
    s.chans[i].cfg.limit ≠ 0 → (s.chans[i].cfg.limit : Int) < min 4095 smp.cs[i] →
    s.chans[i].cfg.tripCount ≤ s.chans[i].overCount + 1 →
      let c := s.chans[i]
      let current := (min 4095 smp.cs[i]).toNat
      ∃ t, exec (.scanComplete dt smp ⟨false, true, test⟩) s = .next t ∧
        t.chans[i].out = false ∧ t.chans[i].overCount = 0 ∧ t.chans[i].lastOff = ⟨.trip, current⟩ ∧
        t.chans[i].cfg = c.cfg ∧ t.chans[i].demand = c.demand ∧ t.chans[i].force = c.force ∧
        t.chans[i].usage = min Config.totalMax (c.usage + current * if f.power = .run then 1 else 10) ∧
        t.notices.latch[3] = true ∧
        (c.retries < c.cfg.retryCount → t.chans[i].prot = .tripWait ∧ t.chans[i].retries = c.retries + 1 ∧
          t.chans[i].retryEnd =
            some (s.now + dt + min 600 (c.cfg.retryDelay * 2 ^ c.retries) * Config.unitsPerSecond)) ∧
        (c.cfg.retryCount ≤ c.retries → t.chans[i].prot = .latched ∧ t.chans[i].retries = c.retries ∧
          t.chans[i].retryEnd = c.retryEnd ∧ t.notices.latch[4] = true)

/-! ### What each command does: the inputs and the timers -/

/-- R135, R136, R141, R51 and R132: a raw level starts or stops the debounce timer of its own input alone. At the
expiry the debounced state takes the raw level; a change of SHORE or IGN latches INPUT, ends DOZE and suppresses every
tier whose flag is set while either is asserted; a change of INSTALL to de-asserted lapses every force. The order of
the end of DOZE and of the suppression is an operand (notes/assumptions/3.md). -/
def Obligations.InputsAreDebounced : Prop :=
  ∀ (dt : Nat) (i : Input) (low first : Bool) (s : State),
    let x := s.power.pin i
    let put : Pin → State := fun y => { s with now := s.now + dt, power := s.power.setPin i y }
    (s.inReset.isSome = true → exec (.rawInputChange dt i low) s = .next (put { x with raw := low })) ∧
    (s.inReset = none → exec (.rawInputChange dt i low) s = .next (put
      (if low = x.raw then x
        else ⟨low, x.deb, if low = x.deb then none else some (s.now + dt + 50 * Config.unitsPerMs)⟩))) ∧
    (∀ e, s.inReset = none → x.timer = some e → e ≤ s.now + dt → ∃ t,
      exec (.debouncedChange dt i first) s = .next t ∧ t.power.pin i = ⟨x.raw, x.raw, none⟩ ∧
      (∀ j : Input, j ≠ i → t.power.pin j = s.power.pin j) ∧ t.link = s.link ∧ t.est = s.est ∧ t.store = s.store ∧
      t.holds = s.holds ∧
      (i = .install → t.notices = s.notices ∧ t.tiers = s.tiers ∧ t.scanner = s.scanner ∧
        t.power.st = s.power.st ∧ (x.raw = false → ∀ k : Ch, t.chans[k].force = .none) ∧
        (x.raw = true → t.chans = s.chans)) ∧
      (i ≠ .install → t.notices.latch = s.notices.latch ||| 0b010000000 ∧ t.notices.mask = s.notices.mask ∧
        t.notices.ackMark = s.notices.ackMark ∧ t.power.st = .run ∧
        t.power.lastExit = (if s.power.st = .doze then s.now + dt else s.power.lastExit) ∧
        (∀ k : Ch, s.chans[k].Keeps t.chans[k]) ∧
        (∀ k : Fin 5, t.tiers.recs[k].cfg = s.tiers.recs[k].cfg ∧ t.tiers.recs[k].conf = s.tiers.recs[k].conf ∧
          (s.tiers.recs[k].cfg.measure ≠ .off → s.tiers.recs[k].cfg.suppress = true →
            (t.power.shore.deb || t.power.ign.deb) = true →
              t.tiers.recs[k].st = .suppressed ∧ (s.tiers.recs[k].st ≠ .suppressed → t.tiers.recs[k].streak = 0)) ∧
          (s.tiers.recs[k].cfg.measure ≠ .off → s.tiers.recs[k].st = .suppressed →
            (t.power.shore.deb || t.power.ign.deb) = false →
              t.tiers.recs[k].st = .clear ∧ t.tiers.recs[k].streak = 0)) ∧
        t.tiers.depth = depthOf t.tiers.recs))

/-- R82, R83 and R75: a retry expiry takes the channel from TRIP_WAIT to NORMAL with retries used kept and derives its output; the
good run forgives the retries; the end of the blanking stops its timer. -/
def Obligations.RetryGoodRunAndBlankingEnd : Prop :=
  ∀ (dt e : Nat) (i : Ch) (s : State), s.inReset = none → e ≤ s.now + dt →
    (s.OutputLaw → s.chans[i].prot = .tripWait → s.chans[i].retryEnd = some e → ∃ t,
      exec (.retryExpiry dt i) s = .next t ∧ t.chans[i].prot = .normal ∧ t.chans[i].retryEnd = none ∧
      t.chans[i].retries = s.chans[i].retries ∧ t.chans[i].cfg = s.chans[i].cfg ∧
      t.chans[i].demand = s.chans[i].demand ∧ t.chans[i].force = s.chans[i].force ∧
      t.chans[i].usage = s.chans[i].usage ∧ (∀ j : Ch, j ≠ i → s.chans[j].Keeps t.chans[j]) ∧
      (∀ j : Ch, t.chans[j].out = t.chans[j].law) ∧ s.Spares t ∧ t.holds = s.holds ∧ t.link = s.link ∧
      (s.chans[i].cfg.fitted = true → s.chans[i].demand = true → s.chans[i].force = .none → s.chans[i].mark = none →
        s.chans[i].restLock = none → s.seq.st ≠ .settle → s.tiers.depth = 0 → t.chans[i].out = true)) ∧
    (s.chans[i].goodRun = some (e - 60 * Config.unitsPerSecond) → 60 * Config.unitsPerSecond ≤ e →
      exec (.goodRun dt i) s = .next { s with
        now := s.now + dt
        chans := Vector.ofFn fun j : Ch =>
          if j = i then { s.chans[j] with retries := 0, goodRun := none } else s.chans[j] }) ∧
    (s.chans[i].blankEnd = some e →
      exec (.blankingEnd dt i) s = .next { s with
        now := s.now + dt
        chans := Vector.ofFn fun j : Ch => if j = i then { s.chans[j] with blankEnd := none } else s.chans[j] })

/-- R74, R101, R102, R105, R106, R113 and R117: what the ends of the locks, of the spacings and of the settle time bring. The shed
step takes the lowest candidate whose run lock has passed, and the restore step the highest whose rest lock has passed; each is
one channel, and sets the last step time. -/
def Obligations.LocksSpacingsAndSettleTimeEnd : Prop :=
  ∀ (dt e : Nat) (i : Ch) (s : State), s.inReset = none → s.OutputLaw → s.OrderLaw →
    1 ≤ s.seq.cfg.shedSpacing → 1 ≤ s.seq.cfg.restoreSpacing →
      let now := s.now + dt
      let passed : Nat → Prop := fun n => ∃ at', s.seq.lastStep = some at' ∧ at' + n * (100 * Config.unitsPerMs) ≤ now
      let below : Ch → Ch → Bool := fun j k => s.seq.order.idxOf k < s.seq.order.idxOf j
      let pending := ∃ k : Fin 5, s.tiers.recs[k].st = .pending
      (s.chans[i].runLock = some e → e ≤ now → s.seq.st ≠ .settle → s.tiers.depth = 0 →
        (∀ j : Ch, s.chans[j].mark = none) → ∃ t, exec (.runLockExpiry dt i) s = .next t ∧
          t.chans = Vector.ofFn (fun j : Ch => if j = i then { s.chans[j] with runLock := none } else s.chans[j]) ∧
          s.Spares t ∧ t.holds = s.holds ∧ t.link = s.link ∧ t.seq.st = .steady) ∧
      (s.chans[i].restLock = some e → e ≤ now → s.seq.st ≠ .settle → s.tiers.depth = 0 → s.chans[i].mark = none →
        ∃ t, exec (.restLockExpiry dt i) s = .next t ∧ s.Spares t ∧ t.holds = s.holds ∧ t.link = s.link ∧
          (∀ j : Ch, s.chans[j].Keeps t.chans[j]) ∧ (∀ j : Ch, t.chans[j].out = t.chans[j].law) ∧
          (s.chans[i].cfg.fitted = true → s.chans[i].demand = true → s.chans[i].prot = .normal →
            s.chans[i].force = .none → t.chans[i].out = true ∧ t.chans[i].goodRun = some now)) ∧
      (passed s.seq.cfg.shedSpacing → s.seq.st ≠ .settle → 1 ≤ s.tiers.depth → s.tiers.depth ≤ 4 →
        s.shedCandidate i = true → s.chans[i].runLock = none →
        (∀ j : Ch, below j i = true → s.shedCandidate j = true → s.chans[j].runLock ≠ none) → ∃ t,
          exec (.shedSpacingEnd dt) s = .next t ∧
          t.chans[i].mark = some ⟨.shed s.tiers.depth, s.confirming⟩ ∧ t.chans[i].out = false ∧
          (s.chans[i].out = true → t.chans[i].lastOff = ⟨.shed s.tiers.depth, s.confirming⟩) ∧
          s.chans[i].Keeps t.chans[i] ∧ (∀ j : Ch, j ≠ i → t.chans[j] = s.chans[j]) ∧
          t.seq.lastStep = some now ∧ s.Spares t ∧ t.holds = s.holds ∧ t.link = s.link) ∧
      (passed s.seq.cfg.restoreSpacing → s.seq.st ≠ .settle → s.tiers.depth ≤ 4 →
        (∀ j : Ch, s.shedCandidate j = false) → ¬pending → s.scanner.senseFault = false →
        s.restoreCandidate i = true → s.chans[i].restLock = none →
        (∀ j : Ch, below i j = true → s.restoreCandidate j = true → s.chans[j].restLock ≠ none) → ∃ t,
          exec (.restoreSpacingEnd dt) s = .next t ∧
          t.chans[i].mark = none ∧ t.chans[i].out = decide (s.chans[i].prot = .normal) ∧
          s.chans[i].Keeps t.chans[i] ∧ (∀ j : Ch, j ≠ i → t.chans[j] = s.chans[j]) ∧
          t.seq.lastStep = some now ∧ s.Spares t ∧ t.holds = s.holds ∧ t.link = s.link) ∧
      (∀ from', s.seq.st = .settle → s.seq.settleStart = some from' →
        from' + s.seq.cfg.settleTime * (100 * Config.unitsPerMs) ≤ now → ∃ t, exec (.settleTimeEnd dt) s = .next t ∧
          (t.seq.st = .settle ↔ pending) ∧ (∀ j : Ch, s.chans[j].Keeps t.chans[j]) ∧ s.Spares t ∧
          t.holds = s.holds ∧ t.link = s.link)

/-! ### The tables of single operations -/

/-- R48: the table by which a record, a tier's or the cutoff's, moves at an evaluation, and the range of its streak counts, with
the cutoff's bypass of its confirm count at a record of a DOZE scan (R57). A sound scan evaluates all five records on the
compensated voltage or the reserve that it gives and forms the depth again (R47, R58); TIER is latched and each TIER_ENTRY counted
(R61), and so for the cutoff (R62); in DOZE an entry to PENDING or ACTIVE ends DOZE (R60). -/
def Obligations.ARecordMovesByTheEvaluationTable : Prop :=
  (∀ (r : TierRecord) (x : Nat), r.cfg.falling ≤ r.cfg.rising →
    let after := (r.evaluate x false).1
    let at' : TierState → Nat → Prop := fun st n => after.st = st ∧ after.streak = n ∧ after.cfg = r.cfg
    let counted : TierRecord → Prop := fun y =>
      if y.st = .pending ∨ y.st = .releasing then 1 ≤ y.streak ∧ y.streak ≤ 254 else y.streak = 0
    (r.st = .clear →
      (x ≤ r.cfg.falling → r.cfg.confirm = 1 → at' .active 0 ∧ after.conf = some x) ∧
      (x ≤ r.cfg.falling → 1 < r.cfg.confirm → at' .pending 1) ∧
      (r.cfg.falling < x → after = r)) ∧
    (r.st = .pending →
      (x ≤ r.cfg.falling → r.cfg.confirm ≤ r.streak + 1 → at' .active 0 ∧ after.conf = some x) ∧
      (x ≤ r.cfg.falling → r.streak + 1 < r.cfg.confirm → at' .pending (r.streak + 1)) ∧
      (r.cfg.falling < x → at' .clear 0)) ∧
    (r.st = .active →
      (r.cfg.rising < x → r.cfg.release = 1 → at' .clear 0) ∧
      (r.cfg.rising < x → 1 < r.cfg.release → at' .releasing 1) ∧
      (x ≤ r.cfg.rising → after = r)) ∧
    (r.st = .releasing →
      (r.cfg.rising < x → r.cfg.release ≤ r.streak + 1 → at' .clear 0) ∧
      (r.cfg.rising < x → r.streak + 1 < r.cfg.release → at' .releasing (r.streak + 1)) ∧
      (x ≤ r.cfg.rising → at' .active 0)) ∧
    (r.st = .disabled ∨ r.st = .suppressed → after = r) ∧
    (r.cfg.confirm ≤ 255 → r.cfg.release ≤ 255 → counted r → counted after) ∧
    (after.st ≠ .active ∨ r.st = .active ∨ r.st = .releasing → after.conf = r.conf)) ∧
  (∀ (r : TierRecord) (x : Nat),
    let enters := x ≤ r.cfg.falling ∧ (r.st = .clear ∨ r.st = .pending)
    (enters → (r.evaluate x true).1 = { r with st := .active, streak := 0, conf := some x }) ∧
    (¬enters → (r.evaluate x true).1 = (r.evaluate x false).1)) ∧
  ∀ (dt : Nat) (smp : Samples) (ord : CompletionOrder) (s : State) (f : Scan), s.inReset = none →
    s.scanner.inFlight = some f → f.ends ≤ s.now + dt →
      ∃ t d, exec (.scanComplete dt smp ord) s = .next t ∧ t.scanner.record = some d ∧
        (d.senseFault = false → d.vStanding ≠ .lost → d.iStanding ≠ .lost →
          let r : Fin 5 → TierRecord := fun k => s.tiers.recs[k]
          let r' : Fin 5 → TierRecord := fun k => t.tiers.recs[k]
          let calls : TierRecord → Bool := fun y => decide (y.st = .active ∨ y.st = .releasing)
          let enters : Fin 5 → Bool := fun k => !calls (r k) && calls (r' k)
          let leaves : Fin 5 → Bool := fun k => calls (r k) && !calls (r' k)
          (∀ k : Fin 5,
            let bypass := decide (k = 4) && decide (d.power = .doze)
            ((r k).cfg.measure = .voltage → r' k = ((r k).evaluate t.est.compensated bypass).1) ∧
            ((r k).cfg.measure = .reserve → r' k = ((r k).evaluate t.est.reserve bypass).1) ∧
            ((r k).st = .disabled → r' k = r k)) ∧
          t.tiers.depth = depthOf t.tiers.recs ∧
          t.notices.latch[1] = (s.notices.latch[1] || decide (∃ k : Fin 5, k ≠ 4 ∧ (enters k || leaves k) = true)) ∧
          t.notices.latch[2] = (if enters 4 then true else if leaves 4 && s.notices.ackMark[2] then false
            else s.notices.latch[2]) ∧
          (∀ n : Fin 8,
            let sel := s.tally[n].sel
            let events : Nat := if sel.inhibit then 0
              else (List.finRange 5).countP fun k =>
                enters k && (if k = 4 then decide (sel.qualifier = 0)
                  else decide (sel.qualifier = 0) || decide (sel.qualifier = k.val + 1))
                && decide (sel.kind = if k = 4 then .cutoffEntry else .tierEntry)
            sel.kind = .tierEntry ∨ sel.kind = .cutoffEntry →
              t.tally[n].value = min Config.totalMax (s.tally[n].value + events)) ∧
          (s.power.st = .doze → (∃ k : Fin 5, ((r k).st = .clear ∧ (r' k).st ≠ .clear) ∨
              ((r k).st = .pending ∧ (r' k).st = .active)) →
            t.power = { s.power with st := .run, lastExit := s.now + dt }))

/-- R46: the clamps of a tier record, with the examples of the rule. -/
def Obligations.ATierRecordIsClampedInOrder : Prop :=
  (∀ t : TierSettings, t.confirm < 256 → t.release < 256 →
    let top : Nat := if t.measure = .reserve then 1000 else 32000
    let bottom : Nat := if t.measure = .voltage then 8000 else 0
    let gap : Nat := if t.measure = .voltage then 50 else if t.measure = .reserve then 10 else 0
    let falling := min top (max bottom t.falling)
    let rising := min top (max bottom t.rising)
    t.clamp = { t with
      confirm := if t.confirm = 0 then 1 else t.confirm
      release := if t.release = 0 then 1 else t.release
      falling := if t.measure ≠ .off ∧ rising < falling + gap ∧ top < falling + gap then top - gap else falling
      rising := if t.measure ≠ .off ∧ rising < falling + gap then min top (falling + gap) else rising }) ∧
  (∀ conf rel sup,
    (TierSettings.clamp ⟨.voltage, 12000, 12020, conf, rel, sup⟩).rising = 12050 ∧
    ((TierSettings.clamp ⟨.voltage, 31990, 5000, conf, rel, sup⟩).falling = 31950 ∧
      (TierSettings.clamp ⟨.voltage, 31990, 5000, conf, rel, sup⟩).rising = 32000) ∧
    ((TierSettings.clamp ⟨.reserve, 995, 0, conf, rel, sup⟩).falling = 990 ∧
      (TierSettings.clamp ⟨.reserve, 995, 0, conf, rel, sup⟩).rising = 1000) ∧
    (TierSettings.clamp ⟨.reserve, 250, 1400, conf, rel, sup⟩).rising = 1000 ∧
    (TierSettings.clamp ⟨.voltage, 7000, 12500, conf, rel, sup⟩).falling = 8000)

end
end

