-- ==== Sys2Proof/Laws/State.lean ====
section
/-! SUPPORT. Laws about State: for each update of the part, one lemma for each component that it leaves alone. -/

namespace Sys2Proof.Machine

/-! The clock alone moves. -/

@[simp] theorem State.elapse_inReset (s : State) (dt : Nat) : (s.elapse dt).inReset = s.inReset := by simp only [State.elapse]
@[simp] theorem State.elapse_scanner (s : State) (dt : Nat) : (s.elapse dt).scanner = s.scanner := by simp only [State.elapse]
@[simp] theorem State.elapse_est (s : State) (dt : Nat) : (s.elapse dt).est = s.est := by simp only [State.elapse]
@[simp] theorem State.elapse_tiers (s : State) (dt : Nat) : (s.elapse dt).tiers = s.tiers := by simp only [State.elapse]
@[simp] theorem State.elapse_chans (s : State) (dt : Nat) : (s.elapse dt).chans = s.chans := by simp only [State.elapse]
@[simp] theorem State.elapse_seq (s : State) (dt : Nat) : (s.elapse dt).seq = s.seq := by simp only [State.elapse]
@[simp] theorem State.elapse_holds (s : State) (dt : Nat) : (s.elapse dt).holds = s.holds := by simp only [State.elapse]
@[simp] theorem State.elapse_power (s : State) (dt : Nat) : (s.elapse dt).power = s.power := by simp only [State.elapse]
@[simp] theorem State.elapse_link (s : State) (dt : Nat) : (s.elapse dt).link = s.link := by simp only [State.elapse]
@[simp] theorem State.elapse_notices (s : State) (dt : Nat) : (s.elapse dt).notices = s.notices := by simp only [State.elapse]
@[simp] theorem State.elapse_tally (s : State) (dt : Nat) : (s.elapse dt).tally = s.tally := by simp only [State.elapse]
@[simp] theorem State.elapse_store (s : State) (dt : Nat) : (s.elapse dt).store = s.store := by simp only [State.elapse]
@[simp] theorem State.elapse_pending (s : State) (dt : Nat) : (s.elapse dt).pending = s.pending := by simp only [State.elapse]

/-! A report changes the tally counters alone. -/

@[simp] theorem State.report_now (s : State) (k : EventKind) (l : List Nat) : (s.report k l).now = s.now := by simp only [State.report]
@[simp] theorem State.report_inReset (s : State) (k : EventKind) (l : List Nat) : (s.report k l).inReset = s.inReset := by simp only [State.report]
@[simp] theorem State.report_scanner (s : State) (k : EventKind) (l : List Nat) : (s.report k l).scanner = s.scanner := by simp only [State.report]
@[simp] theorem State.report_est (s : State) (k : EventKind) (l : List Nat) : (s.report k l).est = s.est := by simp only [State.report]
@[simp] theorem State.report_tiers (s : State) (k : EventKind) (l : List Nat) : (s.report k l).tiers = s.tiers := by simp only [State.report]
@[simp] theorem State.report_chans (s : State) (k : EventKind) (l : List Nat) : (s.report k l).chans = s.chans := by simp only [State.report]
@[simp] theorem State.report_seq (s : State) (k : EventKind) (l : List Nat) : (s.report k l).seq = s.seq := by simp only [State.report]
@[simp] theorem State.report_holds (s : State) (k : EventKind) (l : List Nat) : (s.report k l).holds = s.holds := by simp only [State.report]
@[simp] theorem State.report_power (s : State) (k : EventKind) (l : List Nat) : (s.report k l).power = s.power := by simp only [State.report]
@[simp] theorem State.report_link (s : State) (k : EventKind) (l : List Nat) : (s.report k l).link = s.link := by simp only [State.report]
@[simp] theorem State.report_notices (s : State) (k : EventKind) (l : List Nat) : (s.report k l).notices = s.notices := by simp only [State.report]
@[simp] theorem State.report_store (s : State) (k : EventKind) (l : List Nat) : (s.report k l).store = s.store := by simp only [State.report]
@[simp] theorem State.report_pending (s : State) (k : EventKind) (l : List Nat) : (s.report k l).pending = s.pending := by simp only [State.report]

/-! A conditional report changes the tally counters alone. -/

@[simp] theorem State.reportIf_now (s : State) (k : EventKind) (b : Bool) : (s.reportIf k b).now = s.now := by simp only [State.reportIf, State.report]
@[simp] theorem State.reportIf_inReset (s : State) (k : EventKind) (b : Bool) : (s.reportIf k b).inReset = s.inReset := by simp only [State.reportIf, State.report]
@[simp] theorem State.reportIf_scanner (s : State) (k : EventKind) (b : Bool) : (s.reportIf k b).scanner = s.scanner := by simp only [State.reportIf, State.report]
@[simp] theorem State.reportIf_est (s : State) (k : EventKind) (b : Bool) : (s.reportIf k b).est = s.est := by simp only [State.reportIf, State.report]
@[simp] theorem State.reportIf_tiers (s : State) (k : EventKind) (b : Bool) : (s.reportIf k b).tiers = s.tiers := by simp only [State.reportIf, State.report]
@[simp] theorem State.reportIf_chans (s : State) (k : EventKind) (b : Bool) : (s.reportIf k b).chans = s.chans := by simp only [State.reportIf, State.report]
@[simp] theorem State.reportIf_seq (s : State) (k : EventKind) (b : Bool) : (s.reportIf k b).seq = s.seq := by simp only [State.reportIf, State.report]
@[simp] theorem State.reportIf_holds (s : State) (k : EventKind) (b : Bool) : (s.reportIf k b).holds = s.holds := by simp only [State.reportIf, State.report]
@[simp] theorem State.reportIf_power (s : State) (k : EventKind) (b : Bool) : (s.reportIf k b).power = s.power := by simp only [State.reportIf, State.report]
@[simp] theorem State.reportIf_link (s : State) (k : EventKind) (b : Bool) : (s.reportIf k b).link = s.link := by simp only [State.reportIf, State.report]
@[simp] theorem State.reportIf_notices (s : State) (k : EventKind) (b : Bool) : (s.reportIf k b).notices = s.notices := by simp only [State.reportIf, State.report]
@[simp] theorem State.reportIf_store (s : State) (k : EventKind) (b : Bool) : (s.reportIf k b).store = s.store := by simp only [State.reportIf, State.report]
@[simp] theorem State.reportIf_pending (s : State) (k : EventKind) (b : Bool) : (s.reportIf k b).pending = s.pending := by simp only [State.reportIf, State.report]

/-! One channel changes. -/

@[simp] theorem State.setChan_now (s : State) (i : Ch) (c : Chan) : (s.setChan i c).now = s.now := by simp only [State.setChan]
@[simp] theorem State.setChan_inReset (s : State) (i : Ch) (c : Chan) : (s.setChan i c).inReset = s.inReset := by simp only [State.setChan]
@[simp] theorem State.setChan_scanner (s : State) (i : Ch) (c : Chan) : (s.setChan i c).scanner = s.scanner := by simp only [State.setChan]
@[simp] theorem State.setChan_est (s : State) (i : Ch) (c : Chan) : (s.setChan i c).est = s.est := by simp only [State.setChan]
@[simp] theorem State.setChan_tiers (s : State) (i : Ch) (c : Chan) : (s.setChan i c).tiers = s.tiers := by simp only [State.setChan]
@[simp] theorem State.setChan_seq (s : State) (i : Ch) (c : Chan) : (s.setChan i c).seq = s.seq := by simp only [State.setChan]
@[simp] theorem State.setChan_holds (s : State) (i : Ch) (c : Chan) : (s.setChan i c).holds = s.holds := by simp only [State.setChan]
@[simp] theorem State.setChan_power (s : State) (i : Ch) (c : Chan) : (s.setChan i c).power = s.power := by simp only [State.setChan]
@[simp] theorem State.setChan_link (s : State) (i : Ch) (c : Chan) : (s.setChan i c).link = s.link := by simp only [State.setChan]
@[simp] theorem State.setChan_notices (s : State) (i : Ch) (c : Chan) : (s.setChan i c).notices = s.notices := by simp only [State.setChan]
@[simp] theorem State.setChan_tally (s : State) (i : Ch) (c : Chan) : (s.setChan i c).tally = s.tally := by simp only [State.setChan]
@[simp] theorem State.setChan_store (s : State) (i : Ch) (c : Chan) : (s.setChan i c).store = s.store := by simp only [State.setChan]
@[simp] theorem State.setChan_pending (s : State) (i : Ch) (c : Chan) : (s.setChan i c).pending = s.pending := by simp only [State.setChan]

/-! The channels change. -/

@[simp] theorem State.mapChans_now (s : State) (f : Ch → Chan → Chan) : (s.mapChans f).now = s.now := by simp only [State.mapChans]
@[simp] theorem State.mapChans_inReset (s : State) (f : Ch → Chan → Chan) : (s.mapChans f).inReset = s.inReset := by simp only [State.mapChans]
@[simp] theorem State.mapChans_scanner (s : State) (f : Ch → Chan → Chan) : (s.mapChans f).scanner = s.scanner := by simp only [State.mapChans]
@[simp] theorem State.mapChans_est (s : State) (f : Ch → Chan → Chan) : (s.mapChans f).est = s.est := by simp only [State.mapChans]
@[simp] theorem State.mapChans_tiers (s : State) (f : Ch → Chan → Chan) : (s.mapChans f).tiers = s.tiers := by simp only [State.mapChans]
@[simp] theorem State.mapChans_seq (s : State) (f : Ch → Chan → Chan) : (s.mapChans f).seq = s.seq := by simp only [State.mapChans]
@[simp] theorem State.mapChans_holds (s : State) (f : Ch → Chan → Chan) : (s.mapChans f).holds = s.holds := by simp only [State.mapChans]
@[simp] theorem State.mapChans_power (s : State) (f : Ch → Chan → Chan) : (s.mapChans f).power = s.power := by simp only [State.mapChans]
@[simp] theorem State.mapChans_link (s : State) (f : Ch → Chan → Chan) : (s.mapChans f).link = s.link := by simp only [State.mapChans]
@[simp] theorem State.mapChans_notices (s : State) (f : Ch → Chan → Chan) : (s.mapChans f).notices = s.notices := by simp only [State.mapChans]
@[simp] theorem State.mapChans_tally (s : State) (f : Ch → Chan → Chan) : (s.mapChans f).tally = s.tally := by simp only [State.mapChans]
@[simp] theorem State.mapChans_store (s : State) (f : Ch → Chan → Chan) : (s.mapChans f).store = s.store := by simp only [State.mapChans]
@[simp] theorem State.mapChans_pending (s : State) (f : Ch → Chan → Chan) : (s.mapChans f).pending = s.pending := by simp only [State.mapChans]

/-! A derivation changes the channels and the tally counters alone. -/

@[simp] theorem State.derive_now (s : State) : (s.derive).now = s.now := by simp only [State.derive, State.report]
@[simp] theorem State.derive_inReset (s : State) : (s.derive).inReset = s.inReset := by simp only [State.derive, State.report]
@[simp] theorem State.derive_scanner (s : State) : (s.derive).scanner = s.scanner := by simp only [State.derive, State.report]
@[simp] theorem State.derive_est (s : State) : (s.derive).est = s.est := by simp only [State.derive, State.report]
@[simp] theorem State.derive_tiers (s : State) : (s.derive).tiers = s.tiers := by simp only [State.derive, State.report]
@[simp] theorem State.derive_seq (s : State) : (s.derive).seq = s.seq := by simp only [State.derive, State.report]
@[simp] theorem State.derive_holds (s : State) : (s.derive).holds = s.holds := by simp only [State.derive, State.report]
@[simp] theorem State.derive_power (s : State) : (s.derive).power = s.power := by simp only [State.derive, State.report]
@[simp] theorem State.derive_link (s : State) : (s.derive).link = s.link := by simp only [State.derive, State.report]
@[simp] theorem State.derive_notices (s : State) : (s.derive).notices = s.notices := by simp only [State.derive, State.report]
@[simp] theorem State.derive_store (s : State) : (s.derive).store = s.store := by simp only [State.derive, State.report]
@[simp] theorem State.derive_pending (s : State) : (s.derive).pending = s.pending := by simp only [State.derive, State.report]

/-! A marking changes the channels and the tally counters alone. -/

@[simp] theorem State.markEach_now (s : State) (f : Ch → Option Mark) : (s.markEach f).now = s.now := by simp only [State.markEach, State.report, State.mapChans]
@[simp] theorem State.markEach_inReset (s : State) (f : Ch → Option Mark) : (s.markEach f).inReset = s.inReset := by simp only [State.markEach, State.report, State.mapChans]
@[simp] theorem State.markEach_scanner (s : State) (f : Ch → Option Mark) : (s.markEach f).scanner = s.scanner := by simp only [State.markEach, State.report, State.mapChans]
@[simp] theorem State.markEach_est (s : State) (f : Ch → Option Mark) : (s.markEach f).est = s.est := by simp only [State.markEach, State.report, State.mapChans]
@[simp] theorem State.markEach_tiers (s : State) (f : Ch → Option Mark) : (s.markEach f).tiers = s.tiers := by simp only [State.markEach, State.report, State.mapChans]
@[simp] theorem State.markEach_seq (s : State) (f : Ch → Option Mark) : (s.markEach f).seq = s.seq := by simp only [State.markEach, State.report, State.mapChans]
@[simp] theorem State.markEach_holds (s : State) (f : Ch → Option Mark) : (s.markEach f).holds = s.holds := by simp only [State.markEach, State.report, State.mapChans]
@[simp] theorem State.markEach_power (s : State) (f : Ch → Option Mark) : (s.markEach f).power = s.power := by simp only [State.markEach, State.report, State.mapChans]
@[simp] theorem State.markEach_link (s : State) (f : Ch → Option Mark) : (s.markEach f).link = s.link := by simp only [State.markEach, State.report, State.mapChans]
@[simp] theorem State.markEach_notices (s : State) (f : Ch → Option Mark) : (s.markEach f).notices = s.notices := by simp only [State.markEach, State.report, State.mapChans]
@[simp] theorem State.markEach_store (s : State) (f : Ch → Option Mark) : (s.markEach f).store = s.store := by simp only [State.markEach, State.report, State.mapChans]
@[simp] theorem State.markEach_pending (s : State) (f : Ch → Option Mark) : (s.markEach f).pending = s.pending := by simp only [State.markEach, State.report, State.mapChans]

/-! A shed step changes the channels, the tally counters and the Sequencer alone. -/

@[simp] theorem State.shedStep_now (s : State) (i : Ch) : (s.shedStep i).now = s.now := by simp only [State.shedStep, State.markEach, State.report, State.mapChans]
@[simp] theorem State.shedStep_inReset (s : State) (i : Ch) : (s.shedStep i).inReset = s.inReset := by simp only [State.shedStep, State.markEach, State.report, State.mapChans]
@[simp] theorem State.shedStep_scanner (s : State) (i : Ch) : (s.shedStep i).scanner = s.scanner := by simp only [State.shedStep, State.markEach, State.report, State.mapChans]
@[simp] theorem State.shedStep_est (s : State) (i : Ch) : (s.shedStep i).est = s.est := by simp only [State.shedStep, State.markEach, State.report, State.mapChans]
@[simp] theorem State.shedStep_tiers (s : State) (i : Ch) : (s.shedStep i).tiers = s.tiers := by simp only [State.shedStep, State.markEach, State.report, State.mapChans]
@[simp] theorem State.shedStep_holds (s : State) (i : Ch) : (s.shedStep i).holds = s.holds := by simp only [State.shedStep, State.markEach, State.report, State.mapChans]
@[simp] theorem State.shedStep_power (s : State) (i : Ch) : (s.shedStep i).power = s.power := by simp only [State.shedStep, State.markEach, State.report, State.mapChans]
@[simp] theorem State.shedStep_link (s : State) (i : Ch) : (s.shedStep i).link = s.link := by simp only [State.shedStep, State.markEach, State.report, State.mapChans]
@[simp] theorem State.shedStep_notices (s : State) (i : Ch) : (s.shedStep i).notices = s.notices := by simp only [State.shedStep, State.markEach, State.report, State.mapChans]
@[simp] theorem State.shedStep_store (s : State) (i : Ch) : (s.shedStep i).store = s.store := by simp only [State.shedStep, State.markEach, State.report, State.mapChans]
@[simp] theorem State.shedStep_pending (s : State) (i : Ch) : (s.shedStep i).pending = s.pending := by simp only [State.shedStep, State.markEach, State.report, State.mapChans]

/-! A restore step changes the channels, the tally counters and the Sequencer alone. -/

@[simp] theorem State.restoreStep_now (s : State) (i : Ch) : (s.restoreStep i).now = s.now := by simp only [State.restoreStep, State.report, State.setChan]
@[simp] theorem State.restoreStep_inReset (s : State) (i : Ch) : (s.restoreStep i).inReset = s.inReset := by simp only [State.restoreStep, State.report, State.setChan]
@[simp] theorem State.restoreStep_scanner (s : State) (i : Ch) : (s.restoreStep i).scanner = s.scanner := by simp only [State.restoreStep, State.report, State.setChan]
@[simp] theorem State.restoreStep_est (s : State) (i : Ch) : (s.restoreStep i).est = s.est := by simp only [State.restoreStep, State.report, State.setChan]
@[simp] theorem State.restoreStep_tiers (s : State) (i : Ch) : (s.restoreStep i).tiers = s.tiers := by simp only [State.restoreStep, State.report, State.setChan]
@[simp] theorem State.restoreStep_holds (s : State) (i : Ch) : (s.restoreStep i).holds = s.holds := by simp only [State.restoreStep, State.report, State.setChan]
@[simp] theorem State.restoreStep_power (s : State) (i : Ch) : (s.restoreStep i).power = s.power := by simp only [State.restoreStep, State.report, State.setChan]
@[simp] theorem State.restoreStep_link (s : State) (i : Ch) : (s.restoreStep i).link = s.link := by simp only [State.restoreStep, State.report, State.setChan]
@[simp] theorem State.restoreStep_notices (s : State) (i : Ch) : (s.restoreStep i).notices = s.notices := by simp only [State.restoreStep, State.report, State.setChan]
@[simp] theorem State.restoreStep_store (s : State) (i : Ch) : (s.restoreStep i).store = s.store := by simp only [State.restoreStep, State.report, State.setChan]
@[simp] theorem State.restoreStep_pending (s : State) (i : Ch) : (s.restoreStep i).pending = s.pending := by simp only [State.restoreStep, State.report, State.setChan]

/-! Entries of the hold list go. -/

@[simp] theorem State.dropHolds_now (s : State) (p : Ch → Bool) : (s.dropHolds p).now = s.now := by simp only [State.dropHolds]
@[simp] theorem State.dropHolds_inReset (s : State) (p : Ch → Bool) : (s.dropHolds p).inReset = s.inReset := by simp only [State.dropHolds]
@[simp] theorem State.dropHolds_scanner (s : State) (p : Ch → Bool) : (s.dropHolds p).scanner = s.scanner := by simp only [State.dropHolds]
@[simp] theorem State.dropHolds_est (s : State) (p : Ch → Bool) : (s.dropHolds p).est = s.est := by simp only [State.dropHolds]
@[simp] theorem State.dropHolds_tiers (s : State) (p : Ch → Bool) : (s.dropHolds p).tiers = s.tiers := by simp only [State.dropHolds]
@[simp] theorem State.dropHolds_chans (s : State) (p : Ch → Bool) : (s.dropHolds p).chans = s.chans := by simp only [State.dropHolds]
@[simp] theorem State.dropHolds_seq (s : State) (p : Ch → Bool) : (s.dropHolds p).seq = s.seq := by simp only [State.dropHolds]
@[simp] theorem State.dropHolds_power (s : State) (p : Ch → Bool) : (s.dropHolds p).power = s.power := by simp only [State.dropHolds]
@[simp] theorem State.dropHolds_link (s : State) (p : Ch → Bool) : (s.dropHolds p).link = s.link := by simp only [State.dropHolds]
@[simp] theorem State.dropHolds_notices (s : State) (p : Ch → Bool) : (s.dropHolds p).notices = s.notices := by simp only [State.dropHolds]
@[simp] theorem State.dropHolds_tally (s : State) (p : Ch → Bool) : (s.dropHolds p).tally = s.tally := by simp only [State.dropHolds]
@[simp] theorem State.dropHolds_store (s : State) (p : Ch → Bool) : (s.dropHolds p).store = s.store := by simp only [State.dropHolds]
@[simp] theorem State.dropHolds_pending (s : State) (p : Ch → Bool) : (s.dropHolds p).pending = s.pending := by simp only [State.dropHolds]

/-! The link alone changes. -/

@[simp] theorem State.onLink_now (s : State) (f : Link → Link) : (s.onLink f).now = s.now := by simp only [State.onLink]
@[simp] theorem State.onLink_inReset (s : State) (f : Link → Link) : (s.onLink f).inReset = s.inReset := by simp only [State.onLink]
@[simp] theorem State.onLink_scanner (s : State) (f : Link → Link) : (s.onLink f).scanner = s.scanner := by simp only [State.onLink]
@[simp] theorem State.onLink_est (s : State) (f : Link → Link) : (s.onLink f).est = s.est := by simp only [State.onLink]
@[simp] theorem State.onLink_tiers (s : State) (f : Link → Link) : (s.onLink f).tiers = s.tiers := by simp only [State.onLink]
@[simp] theorem State.onLink_chans (s : State) (f : Link → Link) : (s.onLink f).chans = s.chans := by simp only [State.onLink]
@[simp] theorem State.onLink_seq (s : State) (f : Link → Link) : (s.onLink f).seq = s.seq := by simp only [State.onLink]
@[simp] theorem State.onLink_holds (s : State) (f : Link → Link) : (s.onLink f).holds = s.holds := by simp only [State.onLink]
@[simp] theorem State.onLink_power (s : State) (f : Link → Link) : (s.onLink f).power = s.power := by simp only [State.onLink]
@[simp] theorem State.onLink_notices (s : State) (f : Link → Link) : (s.onLink f).notices = s.notices := by simp only [State.onLink]
@[simp] theorem State.onLink_tally (s : State) (f : Link → Link) : (s.onLink f).tally = s.tally := by simp only [State.onLink]
@[simp] theorem State.onLink_store (s : State) (f : Link → Link) : (s.onLink f).store = s.store := by simp only [State.onLink]
@[simp] theorem State.onLink_pending (s : State) (f : Link → Link) : (s.onLink f).pending = s.pending := by simp only [State.onLink]

/-! An accepted frame changes the link alone. -/

@[simp] theorem State.frameGood_now (s : State) : (s.frameGood).now = s.now := by simp only [State.frameGood]
@[simp] theorem State.frameGood_inReset (s : State) : (s.frameGood).inReset = s.inReset := by simp only [State.frameGood]
@[simp] theorem State.frameGood_scanner (s : State) : (s.frameGood).scanner = s.scanner := by simp only [State.frameGood]
@[simp] theorem State.frameGood_est (s : State) : (s.frameGood).est = s.est := by simp only [State.frameGood]
@[simp] theorem State.frameGood_tiers (s : State) : (s.frameGood).tiers = s.tiers := by simp only [State.frameGood]
@[simp] theorem State.frameGood_chans (s : State) : (s.frameGood).chans = s.chans := by simp only [State.frameGood]
@[simp] theorem State.frameGood_seq (s : State) : (s.frameGood).seq = s.seq := by simp only [State.frameGood]
@[simp] theorem State.frameGood_holds (s : State) : (s.frameGood).holds = s.holds := by simp only [State.frameGood]
@[simp] theorem State.frameGood_power (s : State) : (s.frameGood).power = s.power := by simp only [State.frameGood]
@[simp] theorem State.frameGood_notices (s : State) : (s.frameGood).notices = s.notices := by simp only [State.frameGood]
@[simp] theorem State.frameGood_tally (s : State) : (s.frameGood).tally = s.tally := by simp only [State.frameGood]
@[simp] theorem State.frameGood_store (s : State) : (s.frameGood).store = s.store := by simp only [State.frameGood]
@[simp] theorem State.frameGood_pending (s : State) : (s.frameGood).pending = s.pending := by simp only [State.frameGood]

/-! The beginning of a scan changes the scanner and the channels alone. -/

@[simp] theorem State.beginScan_now (s : State) : (s.beginScan).now = s.now := by simp only [State.beginScan, State.mapChans]
@[simp] theorem State.beginScan_inReset (s : State) : (s.beginScan).inReset = s.inReset := by simp only [State.beginScan, State.mapChans]
@[simp] theorem State.beginScan_est (s : State) : (s.beginScan).est = s.est := by simp only [State.beginScan, State.mapChans]
@[simp] theorem State.beginScan_tiers (s : State) : (s.beginScan).tiers = s.tiers := by simp only [State.beginScan, State.mapChans]
@[simp] theorem State.beginScan_seq (s : State) : (s.beginScan).seq = s.seq := by simp only [State.beginScan, State.mapChans]
@[simp] theorem State.beginScan_holds (s : State) : (s.beginScan).holds = s.holds := by simp only [State.beginScan, State.mapChans]
@[simp] theorem State.beginScan_power (s : State) : (s.beginScan).power = s.power := by simp only [State.beginScan, State.mapChans]
@[simp] theorem State.beginScan_link (s : State) : (s.beginScan).link = s.link := by simp only [State.beginScan, State.mapChans]
@[simp] theorem State.beginScan_notices (s : State) : (s.beginScan).notices = s.notices := by simp only [State.beginScan, State.mapChans]
@[simp] theorem State.beginScan_tally (s : State) : (s.beginScan).tally = s.tally := by simp only [State.beginScan, State.mapChans]
@[simp] theorem State.beginScan_store (s : State) : (s.beginScan).store = s.store := by simp only [State.beginScan, State.mapChans]
@[simp] theorem State.beginScan_pending (s : State) : (s.beginScan).pending = s.pending := by simp only [State.beginScan, State.mapChans]

/-! An entry to DOZE changes the power state and the tally counters alone. -/

@[simp] theorem State.enterDoze_now (s : State) : (s.enterDoze).now = s.now := by simp only [State.enterDoze, State.reportIf, State.report]
@[simp] theorem State.enterDoze_inReset (s : State) : (s.enterDoze).inReset = s.inReset := by simp only [State.enterDoze, State.reportIf, State.report]
@[simp] theorem State.enterDoze_scanner (s : State) : (s.enterDoze).scanner = s.scanner := by simp only [State.enterDoze, State.reportIf, State.report]
@[simp] theorem State.enterDoze_est (s : State) : (s.enterDoze).est = s.est := by simp only [State.enterDoze, State.reportIf, State.report]
@[simp] theorem State.enterDoze_tiers (s : State) : (s.enterDoze).tiers = s.tiers := by simp only [State.enterDoze, State.reportIf, State.report]
@[simp] theorem State.enterDoze_chans (s : State) : (s.enterDoze).chans = s.chans := by simp only [State.enterDoze, State.reportIf, State.report]
@[simp] theorem State.enterDoze_seq (s : State) : (s.enterDoze).seq = s.seq := by simp only [State.enterDoze, State.reportIf, State.report]
@[simp] theorem State.enterDoze_holds (s : State) : (s.enterDoze).holds = s.holds := by simp only [State.enterDoze, State.reportIf, State.report]
@[simp] theorem State.enterDoze_link (s : State) : (s.enterDoze).link = s.link := by simp only [State.enterDoze, State.reportIf, State.report]
@[simp] theorem State.enterDoze_notices (s : State) : (s.enterDoze).notices = s.notices := by simp only [State.enterDoze, State.reportIf, State.report]
@[simp] theorem State.enterDoze_store (s : State) : (s.enterDoze).store = s.store := by simp only [State.enterDoze, State.reportIf, State.report]
@[simp] theorem State.enterDoze_pending (s : State) : (s.enterDoze).pending = s.pending := by simp only [State.enterDoze, State.reportIf, State.report]

/-! The force table is part of the channels. -/

@[simp] theorem State.clearForces_now (s : State) : (s.clearForces).now = s.now := by simp only [State.clearForces, State.mapChans]
@[simp] theorem State.clearForces_inReset (s : State) : (s.clearForces).inReset = s.inReset := by simp only [State.clearForces, State.mapChans]
@[simp] theorem State.clearForces_scanner (s : State) : (s.clearForces).scanner = s.scanner := by simp only [State.clearForces, State.mapChans]
@[simp] theorem State.clearForces_est (s : State) : (s.clearForces).est = s.est := by simp only [State.clearForces, State.mapChans]
@[simp] theorem State.clearForces_tiers (s : State) : (s.clearForces).tiers = s.tiers := by simp only [State.clearForces, State.mapChans]
@[simp] theorem State.clearForces_seq (s : State) : (s.clearForces).seq = s.seq := by simp only [State.clearForces, State.mapChans]
@[simp] theorem State.clearForces_holds (s : State) : (s.clearForces).holds = s.holds := by simp only [State.clearForces, State.mapChans]
@[simp] theorem State.clearForces_power (s : State) : (s.clearForces).power = s.power := by simp only [State.clearForces, State.mapChans]
@[simp] theorem State.clearForces_link (s : State) : (s.clearForces).link = s.link := by simp only [State.clearForces, State.mapChans]
@[simp] theorem State.clearForces_notices (s : State) : (s.clearForces).notices = s.notices := by simp only [State.clearForces, State.mapChans]
@[simp] theorem State.clearForces_tally (s : State) : (s.clearForces).tally = s.tally := by simp only [State.clearForces, State.mapChans]
@[simp] theorem State.clearForces_store (s : State) : (s.clearForces).store = s.store := by simp only [State.clearForces, State.mapChans]
@[simp] theorem State.clearForces_pending (s : State) : (s.clearForces).pending = s.pending := by simp only [State.clearForces, State.mapChans]

/-! A debounced state changes Power Control alone. -/

@[simp] theorem State.takeLevel_now (s : State) (i : Input) : (s.takeLevel i).now = s.now := by simp only [State.takeLevel]
@[simp] theorem State.takeLevel_inReset (s : State) (i : Input) : (s.takeLevel i).inReset = s.inReset := by simp only [State.takeLevel]
@[simp] theorem State.takeLevel_scanner (s : State) (i : Input) : (s.takeLevel i).scanner = s.scanner := by simp only [State.takeLevel]
@[simp] theorem State.takeLevel_est (s : State) (i : Input) : (s.takeLevel i).est = s.est := by simp only [State.takeLevel]
@[simp] theorem State.takeLevel_tiers (s : State) (i : Input) : (s.takeLevel i).tiers = s.tiers := by simp only [State.takeLevel]
@[simp] theorem State.takeLevel_chans (s : State) (i : Input) : (s.takeLevel i).chans = s.chans := by simp only [State.takeLevel]
@[simp] theorem State.takeLevel_seq (s : State) (i : Input) : (s.takeLevel i).seq = s.seq := by simp only [State.takeLevel]
@[simp] theorem State.takeLevel_holds (s : State) (i : Input) : (s.takeLevel i).holds = s.holds := by simp only [State.takeLevel]
@[simp] theorem State.takeLevel_link (s : State) (i : Input) : (s.takeLevel i).link = s.link := by simp only [State.takeLevel]
@[simp] theorem State.takeLevel_notices (s : State) (i : Input) : (s.takeLevel i).notices = s.notices := by simp only [State.takeLevel]
@[simp] theorem State.takeLevel_tally (s : State) (i : Input) : (s.takeLevel i).tally = s.tally := by simp only [State.takeLevel]
@[simp] theorem State.takeLevel_store (s : State) (i : Input) : (s.takeLevel i).store = s.store := by simp only [State.takeLevel]
@[simp] theorem State.takeLevel_pending (s : State) (i : Input) : (s.takeLevel i).pending = s.pending := by simp only [State.takeLevel]

/-! The start of a save changes the store alone. -/

@[simp] theorem State.startSave_now (s : State) : (s.startSave).now = s.now := by simp only [State.startSave]
@[simp] theorem State.startSave_inReset (s : State) : (s.startSave).inReset = s.inReset := by simp only [State.startSave]
@[simp] theorem State.startSave_scanner (s : State) : (s.startSave).scanner = s.scanner := by simp only [State.startSave]
@[simp] theorem State.startSave_est (s : State) : (s.startSave).est = s.est := by simp only [State.startSave]
@[simp] theorem State.startSave_tiers (s : State) : (s.startSave).tiers = s.tiers := by simp only [State.startSave]
@[simp] theorem State.startSave_chans (s : State) : (s.startSave).chans = s.chans := by simp only [State.startSave]
@[simp] theorem State.startSave_seq (s : State) : (s.startSave).seq = s.seq := by simp only [State.startSave]
@[simp] theorem State.startSave_holds (s : State) : (s.startSave).holds = s.holds := by simp only [State.startSave]
@[simp] theorem State.startSave_power (s : State) : (s.startSave).power = s.power := by simp only [State.startSave]
@[simp] theorem State.startSave_link (s : State) : (s.startSave).link = s.link := by simp only [State.startSave]
@[simp] theorem State.startSave_notices (s : State) : (s.startSave).notices = s.notices := by simp only [State.startSave]
@[simp] theorem State.startSave_tally (s : State) : (s.startSave).tally = s.tally := by simp only [State.startSave]
@[simp] theorem State.startSave_pending (s : State) : (s.startSave).pending = s.pending := by simp only [State.startSave]

/-! A clearing of usage changes the channels alone. -/

@[simp] theorem State.clearUsage_now (s : State) (n : Nat) : (s.clearUsage n).now = s.now := by simp only [State.clearUsage, State.mapChans]
@[simp] theorem State.clearUsage_inReset (s : State) (n : Nat) : (s.clearUsage n).inReset = s.inReset := by simp only [State.clearUsage, State.mapChans]
@[simp] theorem State.clearUsage_scanner (s : State) (n : Nat) : (s.clearUsage n).scanner = s.scanner := by simp only [State.clearUsage, State.mapChans]
@[simp] theorem State.clearUsage_est (s : State) (n : Nat) : (s.clearUsage n).est = s.est := by simp only [State.clearUsage, State.mapChans]
@[simp] theorem State.clearUsage_tiers (s : State) (n : Nat) : (s.clearUsage n).tiers = s.tiers := by simp only [State.clearUsage, State.mapChans]
@[simp] theorem State.clearUsage_seq (s : State) (n : Nat) : (s.clearUsage n).seq = s.seq := by simp only [State.clearUsage, State.mapChans]
@[simp] theorem State.clearUsage_holds (s : State) (n : Nat) : (s.clearUsage n).holds = s.holds := by simp only [State.clearUsage, State.mapChans]
@[simp] theorem State.clearUsage_power (s : State) (n : Nat) : (s.clearUsage n).power = s.power := by simp only [State.clearUsage, State.mapChans]
@[simp] theorem State.clearUsage_link (s : State) (n : Nat) : (s.clearUsage n).link = s.link := by simp only [State.clearUsage, State.mapChans]
@[simp] theorem State.clearUsage_notices (s : State) (n : Nat) : (s.clearUsage n).notices = s.notices := by simp only [State.clearUsage, State.mapChans]
@[simp] theorem State.clearUsage_tally (s : State) (n : Nat) : (s.clearUsage n).tally = s.tally := by simp only [State.clearUsage, State.mapChans]
@[simp] theorem State.clearUsage_store (s : State) (n : Nat) : (s.clearUsage n).store = s.store := by simp only [State.clearUsage, State.mapChans]
@[simp] theorem State.clearUsage_pending (s : State) (n : Nat) : (s.clearUsage n).pending = s.pending := by simp only [State.clearUsage, State.mapChans]

/-! A clearing of counters changes the counters alone. -/

@[simp] theorem State.clearCounters_now (s : State) (n : Nat) : (s.clearCounters n).now = s.now := by simp only [State.clearCounters]
@[simp] theorem State.clearCounters_inReset (s : State) (n : Nat) : (s.clearCounters n).inReset = s.inReset := by simp only [State.clearCounters]
@[simp] theorem State.clearCounters_scanner (s : State) (n : Nat) : (s.clearCounters n).scanner = s.scanner := by simp only [State.clearCounters]
@[simp] theorem State.clearCounters_est (s : State) (n : Nat) : (s.clearCounters n).est = s.est := by simp only [State.clearCounters]
@[simp] theorem State.clearCounters_tiers (s : State) (n : Nat) : (s.clearCounters n).tiers = s.tiers := by simp only [State.clearCounters]
@[simp] theorem State.clearCounters_chans (s : State) (n : Nat) : (s.clearCounters n).chans = s.chans := by simp only [State.clearCounters]
@[simp] theorem State.clearCounters_seq (s : State) (n : Nat) : (s.clearCounters n).seq = s.seq := by simp only [State.clearCounters]
@[simp] theorem State.clearCounters_holds (s : State) (n : Nat) : (s.clearCounters n).holds = s.holds := by simp only [State.clearCounters]
@[simp] theorem State.clearCounters_power (s : State) (n : Nat) : (s.clearCounters n).power = s.power := by simp only [State.clearCounters]
@[simp] theorem State.clearCounters_link (s : State) (n : Nat) : (s.clearCounters n).link = s.link := by simp only [State.clearCounters]
@[simp] theorem State.clearCounters_notices (s : State) (n : Nat) : (s.clearCounters n).notices = s.notices := by simp only [State.clearCounters]
@[simp] theorem State.clearCounters_store (s : State) (n : Nat) : (s.clearCounters n).store = s.store := by simp only [State.clearCounters]
@[simp] theorem State.clearCounters_pending (s : State) (n : Nat) : (s.clearCounters n).pending = s.pending := by simp only [State.clearCounters]

/-! New selectors change the counters alone. -/

@[simp] theorem State.setSelectors_now (s : State) (k : Nat) (l : List Selector) : (s.setSelectors k l).now = s.now := by simp only [State.setSelectors]
@[simp] theorem State.setSelectors_inReset (s : State) (k : Nat) (l : List Selector) : (s.setSelectors k l).inReset = s.inReset := by simp only [State.setSelectors]
@[simp] theorem State.setSelectors_scanner (s : State) (k : Nat) (l : List Selector) : (s.setSelectors k l).scanner = s.scanner := by simp only [State.setSelectors]
@[simp] theorem State.setSelectors_est (s : State) (k : Nat) (l : List Selector) : (s.setSelectors k l).est = s.est := by simp only [State.setSelectors]
@[simp] theorem State.setSelectors_tiers (s : State) (k : Nat) (l : List Selector) : (s.setSelectors k l).tiers = s.tiers := by simp only [State.setSelectors]
@[simp] theorem State.setSelectors_chans (s : State) (k : Nat) (l : List Selector) : (s.setSelectors k l).chans = s.chans := by simp only [State.setSelectors]
@[simp] theorem State.setSelectors_seq (s : State) (k : Nat) (l : List Selector) : (s.setSelectors k l).seq = s.seq := by simp only [State.setSelectors]
@[simp] theorem State.setSelectors_holds (s : State) (k : Nat) (l : List Selector) : (s.setSelectors k l).holds = s.holds := by simp only [State.setSelectors]
@[simp] theorem State.setSelectors_power (s : State) (k : Nat) (l : List Selector) : (s.setSelectors k l).power = s.power := by simp only [State.setSelectors]
@[simp] theorem State.setSelectors_link (s : State) (k : Nat) (l : List Selector) : (s.setSelectors k l).link = s.link := by simp only [State.setSelectors]
@[simp] theorem State.setSelectors_notices (s : State) (k : Nat) (l : List Selector) : (s.setSelectors k l).notices = s.notices := by simp only [State.setSelectors]
@[simp] theorem State.setSelectors_store (s : State) (k : Nat) (l : List Selector) : (s.setSelectors k l).store = s.store := by simp only [State.setSelectors]
@[simp] theorem State.setSelectors_pending (s : State) (k : Nat) (l : List Selector) : (s.setSelectors k l).pending = s.pending := by simp only [State.setSelectors]

/-! The Sequencer's own fields that no step moves. -/

@[simp] theorem State.shedStep_seq (s : State) (i : Ch) :
    (s.shedStep i).seq = { s.seq with lastStep := some s.now } := by
  simp only [State.shedStep, State.markEach_seq, State.markEach_now]
@[simp] theorem State.restoreStep_seq (s : State) (i : Ch) :
    (s.restoreStep i).seq = { s.seq with lastStep := some s.now } := by
  simp only [State.restoreStep, State.report_seq, State.setChan_seq]
@[simp] theorem State.elapse_clock (s : State) (dt : Nat) : (s.elapse dt).now = s.now + dt := rfl

end Sys2Proof.Machine
end

