-- ==== Sys2Proof/Laws/Channels.lean ====
section
/-! SUPPORT. Laws about the channels: what a derivation, a marking and a change of channels leave of each channel. -/

namespace Sys2Proof.Machine

/-! ### One channel -/

/-- An output that the law calls on stays called on while it is turned on (R71, R72). -/
@[simp] theorem Chan.turnOn_law (now : Nat) (c : Chan) : (c.turnOn now).law = c.law := rfl

/-- One derivation of an output that stands as the law says changes nothing (R71). -/
theorem Chan.deriveOnce_of_law (now : Nat) (c : Chan) (h : c.law = c.out) : c.deriveOnce now = c := by
  simp [Chan.deriveOnce, h]

/-- A derivation of an output that stands as the law says changes nothing (R71). -/
theorem Chan.derive_of_law (now : Nat) (c : Chan) (h : c.law = c.out) : c.derive now = c := by
  simp [Chan.derive, Chan.deriveOnce_of_law now c h]

/-- What a derivation can do: nothing to a lawful output; on, where the law says so; off, where the law says off and still
says off with the rest lock restarted; and off and on again where it then says on (R71, R72, R73). -/
theorem Chan.derive_cases (now : Nat) (c : Chan) :
    (c.law = c.out ∧ c.derive now = c) ∨
    (c.law = true ∧ c.out = false ∧ c.derive now = c.turnOn now) ∨
    (c.law = false ∧ c.out = true ∧ (c.turnOff now c.offCause).law = false ∧
      c.derive now = c.turnOff now c.offCause) ∨
    (c.law = false ∧ c.out = true ∧ (c.turnOff now c.offCause).law = true ∧
      c.derive now = (c.turnOff now c.offCause).turnOn now) := by
  by_cases h : c.law = c.out
  · exact .inl ⟨h, c.derive_of_law now h⟩
  · right
    cases hl : c.law
    · have ho : c.out = true := by cases ho : c.out <;> simp_all
      right
      have h1 : c.deriveOnce now = c.turnOff now c.offCause := by simp [Chan.deriveOnce, hl, ho]
      cases h2 : (c.turnOff now c.offCause).law
      · left
        refine ⟨rfl, ho, rfl, ?_⟩
        rw [Chan.derive, h1]
        exact Chan.deriveOnce_of_law _ _ h2
      · right
        refine ⟨rfl, ho, rfl, ?_⟩
        have h3 : (c.turnOff now c.offCause).out = false := rfl
        rw [Chan.derive, h1]
        simp [Chan.deriveOnce, h2, h3]
    · have ho : c.out = false := by cases ho : c.out <;> simp_all
      left
      refine ⟨rfl, ho, ?_⟩
      have h1 : c.deriveOnce now = c.turnOn now := by simp [Chan.deriveOnce, hl, ho]
      rw [Chan.derive, h1]
      exact Chan.deriveOnce_of_law _ _ hl

/-- After a derivation the output is what the law says (R71). -/
@[simp] theorem Chan.derive_out (now : Nat) (c : Chan) : (c.derive now).out = (c.derive now).law := by
  rcases c.derive_cases now with ⟨h, e⟩ | ⟨h, _, e⟩ | ⟨_, _, h, e⟩ | ⟨_, _, h, e⟩ <;> rw [e]
  · exact h.symm
  · simp [h]; rfl
  · exact h.symm
  · simp [h]; rfl

/-! What a derivation never changes. -/

@[simp] theorem Chan.derive_cfg (now : Nat) (c : Chan) : (c.derive now).cfg = c.cfg := by
  rcases c.derive_cases now with ⟨_, e⟩ | ⟨_, _, e⟩ | ⟨_, _, _, e⟩ | ⟨_, _, _, e⟩ <;> rw [e] <;> rfl
@[simp] theorem Chan.derive_demand (now : Nat) (c : Chan) : (c.derive now).demand = c.demand := by
  rcases c.derive_cases now with ⟨_, e⟩ | ⟨_, _, e⟩ | ⟨_, _, _, e⟩ | ⟨_, _, _, e⟩ <;> rw [e] <;> rfl
@[simp] theorem Chan.derive_prot (now : Nat) (c : Chan) : (c.derive now).prot = c.prot := by
  rcases c.derive_cases now with ⟨_, e⟩ | ⟨_, _, e⟩ | ⟨_, _, _, e⟩ | ⟨_, _, _, e⟩ <;> rw [e] <;> rfl
@[simp] theorem Chan.derive_retries (now : Nat) (c : Chan) : (c.derive now).retries = c.retries := by
  rcases c.derive_cases now with ⟨_, e⟩ | ⟨_, _, e⟩ | ⟨_, _, _, e⟩ | ⟨_, _, _, e⟩ <;> rw [e] <;> rfl
@[simp] theorem Chan.derive_retryEnd (now : Nat) (c : Chan) : (c.derive now).retryEnd = c.retryEnd := by
  rcases c.derive_cases now with ⟨_, e⟩ | ⟨_, _, e⟩ | ⟨_, _, _, e⟩ | ⟨_, _, _, e⟩ <;> rw [e] <;> rfl
@[simp] theorem Chan.derive_usage (now : Nat) (c : Chan) : (c.derive now).usage = c.usage := by
  rcases c.derive_cases now with ⟨_, e⟩ | ⟨_, _, e⟩ | ⟨_, _, _, e⟩ | ⟨_, _, _, e⟩ <;> rw [e] <;> rfl
@[simp] theorem Chan.derive_mark (now : Nat) (c : Chan) : (c.derive now).mark = c.mark := by
  rcases c.derive_cases now with ⟨_, e⟩ | ⟨_, _, e⟩ | ⟨_, _, _, e⟩ | ⟨_, _, _, e⟩ <;> rw [e] <;> rfl
@[simp] theorem Chan.derive_force (now : Nat) (c : Chan) : (c.derive now).force = c.force := by
  rcases c.derive_cases now with ⟨_, e⟩ | ⟨_, _, e⟩ | ⟨_, _, _, e⟩ | ⟨_, _, _, e⟩ <;> rw [e] <;> rfl

/-- The over-count and the open-load run count can only fall at a derivation (R72, R73). -/
theorem Chan.derive_counts (now : Nat) (c : Chan) :
    (c.derive now).overCount ≤ c.overCount ∧ (c.derive now).openRun ≤ c.openRun := by
  rcases c.derive_cases now with ⟨_, e⟩ | ⟨_, _, e⟩ | ⟨_, _, _, e⟩ | ⟨_, _, _, e⟩ <;> rw [e] <;>
    simp [Chan.turnOn, Chan.turnOff]

/-! ### The channels of the part -/

theorem State.setChan_get (s : State) (i : Ch) (c : Chan) (j : Ch) :
    (s.setChan i c).chans[j] = if j = i then c else s.chans[j] := by
  simp only [State.setChan, Fin.getElem_fin, Vector.getElem_set]
  by_cases h : j = i
  · simp [h]
  · simp only [h, if_false]; rw [if_neg (fun e => h (Fin.ext e.symm))]

theorem State.mapChans_get (s : State) (f : Ch → Chan → Chan) (i : Ch) :
    (s.mapChans f).chans[i] = f i s.chans[i] := by
  simp [State.mapChans]

theorem State.derive_get (s : State) (i : Ch) : s.derive.chans[i] = s.chans[i].derive s.now := by
  simp [State.derive, State.report]

theorem State.markEach_get (s : State) (f : Ch → Option Mark) (i : Ch) :
    (s.markEach f).chans[i] =
      match f i with
      | some m => { s.chans[i] with mark := some m }
      | none => s.chans[i] := by
  have h := State.mapChans_get s (fun i c => match f i with | some m => { c with mark := some m } | none => c) i
  simp only [State.markEach, State.report_chans]
  exact h

theorem State.shedStep_get (s : State) (i j : Ch) :
    (s.shedStep i).chans[j] = if j = i then { s.chans[j] with mark := some s.shedMark } else s.chans[j] := by
  have h : (s.shedStep i).chans[j] = (s.markEach fun j => if j = i then some s.shedMark else none).chans[j] := by
    simp only [State.shedStep]
  rw [h, State.markEach_get]; by_cases e : j = i <;> simp [e]

theorem State.restoreStep_get (s : State) (i j : Ch) :
    (s.restoreStep i).chans[j] = if j = i then { s.chans[j] with mark := none } else s.chans[j] := by
  have h : (s.restoreStep i).chans[j] = (s.setChan i { s.chans[i] with mark := none }).chans[j] := by
    simp only [State.restoreStep, State.report_chans]
  rw [h, State.setChan_get]; by_cases e : j = i <;> simp [e]

theorem State.beginScan_get (s : State) (i : Ch) :
    s.beginScan.chans[i] = { s.chans[i] with onBefore := s.chans[i].out } := by
  have h : s.beginScan.chans[i] = (s.mapChans fun _ c => { c with onBefore := c.out }).chans[i] := by
    simp only [State.beginScan]
  rw [h, State.mapChans_get]

theorem State.clearForces_get (s : State) (i : Ch) :
    s.clearForces.chans[i] = { s.chans[i] with force := .none } := by
  simp only [State.clearForces, State.mapChans_get]

/-! The same laws in the form that simp brings an index to. -/

@[simp] theorem State.setChan_val (s : State) (i : Ch) (c : Chan) (j : Ch) :
    (s.setChan i c).chans[j.val] = if j = i then c else s.chans[j.val] := s.setChan_get i c j
@[simp] theorem State.mapChans_val (s : State) (f : Ch → Chan → Chan) (i : Ch) :
    (s.mapChans f).chans[i.val] = f i s.chans[i.val] := s.mapChans_get f i
@[simp] theorem State.derive_val (s : State) (i : Ch) : s.derive.chans[i.val] = s.chans[i.val].derive s.now :=
  s.derive_get i
@[simp] theorem State.shedStep_val (s : State) (i j : Ch) :
    (s.shedStep i).chans[j.val] =
      if j = i then { s.chans[j.val] with mark := some s.shedMark } else s.chans[j.val] := s.shedStep_get i j
@[simp] theorem State.restoreStep_val (s : State) (i j : Ch) :
    (s.restoreStep i).chans[j.val] = if j = i then { s.chans[j.val] with mark := none } else s.chans[j.val] :=
  s.restoreStep_get i j
@[simp] theorem State.beginScan_val (s : State) (i : Ch) :
    s.beginScan.chans[i.val] = { s.chans[i.val] with onBefore := s.chans[i.val].out } := s.beginScan_get i
@[simp] theorem State.clearForces_val (s : State) (i : Ch) :
    s.clearForces.chans[i.val] = { s.chans[i.val] with force := .none } := s.clearForces_get i

/-- After a derivation every output is what the law says (R71). -/
theorem State.derive_lawful (s : State) (i : Ch) : s.derive.chans[i].out = s.derive.chans[i].law := by
  rw [State.derive_get]; exact Chan.derive_out _ _

/-! ### The tally counters (R165) -/

theorem State.report_get (s : State) (k : EventKind) (l : List Nat) (n : Fin 8) :
    (s.report k l).tally[n] = s.tally[n].count k l := by
  simp [State.report]

@[simp] theorem State.report_val (s : State) (k : EventKind) (l : List Nat) (n : Fin 8) :
    (s.report k l).tally[n.val] = s.tally[n.val].count k l := s.report_get k l n

@[simp] theorem Counter.count_sel (k : EventKind) (l : List Nat) (c : Counter) : (c.count k l).sel = c.sel := rfl

/-- Counting keeps a value within its ceiling and never lowers it (R165). -/
theorem Counter.count_value (k : EventKind) (l : List Nat) (c : Counter) :
    (c.count k l).value ≤ Config.totalMax ∧ (c.value ≤ Config.totalMax → c.value ≤ (c.count k l).value) := by
  simp only [Counter.count]; omega

end Sys2Proof.Machine
end

