-- ==== Sys2Proof/Laws/Sequencing.lean ====
section
/-! SUPPORT. Laws about the Sequencer: everything that a reconsideration and the derivations it brings can change, said
once as the relation `State.Moves`. -/

namespace Sys2Proof.Machine

/-- What a derivation or a mark can change of a channel: everything but its settings, demand, protection state, retries,
retry timer, usage and force. -/
structure Chan.Moves (c d : Chan) : Prop where
  cfg : d.cfg = c.cfg
  demand : d.demand = c.demand
  prot : d.prot = c.prot
  retries : d.retries = c.retries
  retryEnd : d.retryEnd = c.retryEnd
  usage : d.usage = c.usage
  force : d.force = c.force
  overCount : d.overCount ≤ c.overCount
  openRun : d.openRun ≤ c.openRun

theorem Chan.Moves.refl (c : Chan) : c.Moves c := ⟨rfl, rfl, rfl, rfl, rfl, rfl, rfl, Nat.le_refl _, Nat.le_refl _⟩

theorem Chan.Moves.trans {c d e : Chan} (h : c.Moves d) (k : d.Moves e) : c.Moves e :=
  ⟨k.cfg.trans h.cfg, k.demand.trans h.demand, k.prot.trans h.prot, k.retries.trans h.retries,
    k.retryEnd.trans h.retryEnd, k.usage.trans h.usage, k.force.trans h.force, k.overCount.trans h.overCount,
    k.openRun.trans h.openRun⟩

theorem Chan.Moves.derive (now : Nat) (c : Chan) : c.Moves (c.derive now) :=
  ⟨by simp, by simp, by simp, by simp, by simp, by simp, by simp, (c.derive_counts now).1, (c.derive_counts now).2⟩

theorem Chan.Moves.mark (c : Chan) (m : Option Mark) : c.Moves { c with mark := m } :=
  ⟨rfl, rfl, rfl, rfl, rfl, rfl, rfl, Nat.le_refl _, Nat.le_refl _⟩

/-- A tally counter keeps its selector, does not fall, and stays within its ceiling (R165). -/
structure Counter.Moves (c d : Counter) : Prop where
  sel : d.sel = c.sel
  value : c.value ≤ Config.totalMax → c.value ≤ d.value ∧ d.value ≤ Config.totalMax

theorem Counter.Moves.refl (c : Counter) : c.Moves c := ⟨rfl, fun h => ⟨Nat.le_refl _, h⟩⟩

theorem Counter.Moves.trans {c d e : Counter} (h : c.Moves d) (k : d.Moves e) : c.Moves e :=
  ⟨k.sel.trans h.sel, fun l => ⟨(h.value l).1.trans (k.value (h.value l).2).1, (k.value (h.value l).2).2⟩⟩

theorem Counter.Moves.count (k : EventKind) (l : List Nat) (c : Counter) : c.Moves (c.count k l) :=
  ⟨rfl, fun h => ⟨(c.count_value k l).2 h, (c.count_value k l).1⟩⟩

/-- Everything that the Sequencer's steps and markings and the derivation of the outputs can change: the channels within
`Chan.Moves`, the tally counters within `Counter.Moves`, and the Sequencer's state and last step time. -/
structure State.Moves (s t : State) : Prop where
  rest : t = { s with
    chans := t.chans
    tally := t.tally
    seq := { s.seq with st := t.seq.st, lastStep := t.seq.lastStep } }
  chans : ∀ i : Ch, s.chans[i].Moves t.chans[i]
  tally : ∀ k : Fin 8, s.tally[k].Moves t.tally[k]

theorem State.Moves.refl (s : State) : s.Moves s := ⟨rfl, fun _ => .refl _, fun _ => .refl _⟩

theorem State.Moves.trans {s t u : State} (h : s.Moves t) (k : t.Moves u) : s.Moves u := by
  refine ⟨?_, fun i => (h.chans i).trans (k.chans i), fun n => (h.tally n).trans (k.tally n)⟩
  have e := k.rest
  have e' := h.rest
  rw [e]; rw [e']

/-! The components that a move leaves alone. -/

theorem State.Moves.now {s t : State} (h : s.Moves t) : t.now = s.now := by rw [h.rest]
theorem State.Moves.inReset {s t : State} (h : s.Moves t) : t.inReset = s.inReset := by rw [h.rest]
theorem State.Moves.scanner {s t : State} (h : s.Moves t) : t.scanner = s.scanner := by rw [h.rest]
theorem State.Moves.est {s t : State} (h : s.Moves t) : t.est = s.est := by rw [h.rest]
theorem State.Moves.tiers {s t : State} (h : s.Moves t) : t.tiers = s.tiers := by rw [h.rest]
theorem State.Moves.holds {s t : State} (h : s.Moves t) : t.holds = s.holds := by rw [h.rest]
theorem State.Moves.power {s t : State} (h : s.Moves t) : t.power = s.power := by rw [h.rest]
theorem State.Moves.link {s t : State} (h : s.Moves t) : t.link = s.link := by rw [h.rest]
theorem State.Moves.notices {s t : State} (h : s.Moves t) : t.notices = s.notices := by rw [h.rest]
theorem State.Moves.store {s t : State} (h : s.Moves t) : t.store = s.store := by rw [h.rest]
theorem State.Moves.pending {s t : State} (h : s.Moves t) : t.pending = s.pending := by rw [h.rest]
theorem State.Moves.order {s t : State} (h : s.Moves t) : t.seq.order = s.seq.order := by rw [h.rest]
theorem State.Moves.seqCfg {s t : State} (h : s.Moves t) : t.seq.cfg = s.seq.cfg := by rw [h.rest]
theorem State.Moves.settleStart {s t : State} (h : s.Moves t) : t.seq.settleStart = s.seq.settleStart := by
  rw [h.rest]

/-! ### Every part of a reconsideration is a move -/

theorem State.report_moves (s : State) (k : EventKind) (l : List Nat) : s.Moves (s.report k l) :=
  ⟨by simp only [State.report], fun i => by simp only [State.report_chans]; exact .refl _,
    fun n => by rw [State.report_get]; exact .count k l _⟩

theorem State.derive_moves (s : State) : s.Moves s.derive :=
  ⟨by simp only [State.derive, State.report], fun i => by rw [State.derive_get]; exact .derive _ _,
    fun n => by
      have h : s.derive.tally[n] = s.tally[n].count .switchOn (channelNos fun i => s.chans[i].comesOn s.now) := by
        simp only [State.derive, State.report_get]
      rw [h]; exact .count _ _ _⟩

theorem State.markEach_moves (s : State) (f : Ch → Option Mark) : s.Moves (s.markEach f) :=
  ⟨by simp only [State.markEach, State.report, State.mapChans], fun i => by
      rw [State.markEach_get]; cases f i
      · exact .refl _
      · exact .mark _ _,
    fun n => by
      have h : (s.markEach f).tally[n] = s.tally[n].count .shedAction (channelNos fun i => (f i).isSome) := by
        simp only [State.markEach, State.report_get, State.mapChans_tally]
      rw [h]; exact .count _ _ _⟩

theorem State.stepped_moves {s t : State} (h : s.Moves t) (l : Option Nat) :
    s.Moves { t with seq := { t.seq with lastStep := l } } :=
  ⟨by conv_lhs => rw [h.rest], h.chans, h.tally⟩

theorem State.formed_moves {s t : State} (h : s.Moves t) (st : SeqState) :
    s.Moves { t with seq := { t.seq with st := st } } :=
  ⟨by conv_lhs => rw [h.rest], h.chans, h.tally⟩

theorem State.massShed_moves (s : State) : s.Moves s.massShed := by
  unfold State.massShed; split
  · exact State.stepped_moves (s.markEach_moves _) _
  · exact .refl _

theorem State.markSettle_moves (s : State) : s.Moves s.markSettle := by
  unfold State.markSettle; split
  · exact s.markEach_moves _
  · exact .refl _

theorem State.shedStep_moves (s : State) (i : Ch) : s.Moves (s.shedStep i) :=
  State.stepped_moves (s.markEach_moves _) _

theorem State.unmark_moves (s : State) (i : Ch) (m : Option Mark) : s.Moves (s.setChan i { s.chans[i] with mark := m }) :=
  ⟨by simp only [State.setChan], fun j => by
      rw [State.setChan_get]; split
      · rename_i h; rw [h]; exact .mark _ _
      · exact .refl _,
    fun n => by simp only [State.setChan_tally]; exact .refl _⟩

theorem State.restoreStep_moves (s : State) (i : Ch) : s.Moves (s.restoreStep i) :=
  State.stepped_moves ((s.unmark_moves i none).trans (State.report_moves _ _ _)) _

theorem State.takeStep_moves (s : State) : s.Moves s.takeStep := by
  unfold State.takeStep; split
  · exact s.shedStep_moves _
  · split
    · exact s.restoreStep_moves _
    · exact .refl _

/-- A reconsideration is a move (R117). -/
theorem State.reconsider_moves (s : State) : s.Moves s.reconsider :=
  State.formed_moves ((s.massShed_moves.trans (State.markSettle_moves _)).trans (State.takeStep_moves _)) _

/-- The derivations of the outputs, with the reconsiderations that they bring, are a move (R71, R117). -/
theorem State.settleOutputs_moves (n : Nat) (s : State) : s.Moves (s.settleOutputs n) := by
  induction n generalizing s with
  | zero => exact s.derive_moves
  | succ n ih =>
    unfold State.settleOutputs; split
    · exact .refl _
    · exact (s.derive_moves.trans (State.reconsider_moves _)).trans (ih _)

/-- Resolving a change is a move. -/
theorem State.resolve_moves (s : State) : s.Moves s.resolve :=
  s.reconsider_moves.trans (State.settleOutputs_moves _ _)

/-- Resolving a change of the outputs alone is a move. -/
theorem State.resolveOutputs_moves (s : State) : s.Moves s.resolveOutputs := State.settleOutputs_moves _ _

/-! ### Where it ends -/

/-- When the outputs have been settled, each is what the law says (R71). -/
theorem State.settleOutputs_lawful (n : Nat) (s : State) (i : Ch) :
    (s.settleOutputs n).chans[i].out = (s.settleOutputs n).chans[i].law := by
  induction n generalizing s with
  | zero => exact s.derive_lawful i
  | succ n ih =>
    unfold State.settleOutputs; split
    · rename_i h
      simp only [State.lawful, channels, List.all_eq_true, List.mem_finRange, beq_iff_eq, forall_const] at h
      exact (h i).symm
    · exact ih _

theorem State.resolve_lawful (s : State) (i : Ch) : s.resolve.chans[i].out = s.resolve.chans[i].law :=
  State.settleOutputs_lawful _ _ _

theorem State.resolveOutputs_lawful (s : State) (i : Ch) :
    s.resolveOutputs.chans[i].out = s.resolveOutputs.chans[i].law :=
  State.settleOutputs_lawful _ _ _

/-! ### What a reconsideration leaves alone -/

/-- The must-shed set rests on nothing that a move changes (R96). -/
theorem State.Moves.mustShed {s t : State} (h : s.Moves t) (i : Ch) : t.mustShed i = s.mustShed i := by
  have c := h.chans i
  simp only [State.mustShed, State.held, h.tiers, h.holds, c.cfg, c.demand, c.force]

/-- Whether the part is past SETTLE is not taken back: a reconsideration never enters SETTLE (R113, R115). -/
theorem State.reconsider_st (s : State) (h : s.seq.st ≠ .settle) : s.reconsider.seq.st ≠ .settle := by
  have e : s.massShed.markSettle.settling = false := by
    have : s.massShed.markSettle.seq.st = s.seq.st := by
      have h1 : s.massShed.seq.st = s.seq.st := by
        unfold State.massShed; split
        · simp only [State.markEach, State.report_seq, State.mapChans_seq]
        · rfl
      unfold State.markSettle; split
      · simp only [State.markEach, State.report_seq, State.mapChans_seq, h1]
      · exact h1
    simp [State.settling, this, h]
  simp only [State.reconsider, e, State.seqState]
  simp only [Bool.false_eq_true, if_false]
  split
  · simp
  · split
    · simp
    · split <;> simp

/-- Settling the outputs never enters SETTLE. -/
theorem State.settleOutputs_st (n : Nat) (s : State) (h : s.seq.st ≠ .settle) :
    (s.settleOutputs n).seq.st ≠ .settle := by
  induction n generalizing s with
  | zero => simpa only [State.settleOutputs, State.derive_seq] using h
  | succ n ih =>
    unfold State.settleOutputs; split
    · exact h
    · exact ih _ (State.reconsider_st _ (by rw [State.derive_seq]; exact h))

theorem State.resolve_st (s : State) (h : s.seq.st ≠ .settle) : s.resolve.seq.st ≠ .settle :=
  State.settleOutputs_st _ _ (s.reconsider_st h)

/-- A marking changes only the channels that it names. -/
theorem State.markEach_none (s : State) (f : Ch → Option Mark) (i : Ch) (h : f i = none) :
    (s.markEach f).chans[i] = s.chans[i] := by rw [State.markEach_get, h]

/-- The channel that a shed step takes is a shed candidate (R102). -/
theorem State.shedChoice_candidate {s : State} {i : Ch} (h : s.shedChoice = some i) :
    s.shedCandidate i = true ∧ s.chans[i].runLock = none ∧ 1 ≤ s.tiers.depth ∧ s.tiers.depth ≤ 4 := by
  unfold State.shedChoice at h; split at h
  · rename_i hd
    have := List.find?_some h
    simp only [Bool.and_eq_true, Option.isNone_iff_eq_none] at this
    exact ⟨this.1, this.2, hd.1, hd.2.1⟩
  · cases h

/-- The channel that a restore step takes is a restore candidate (R105). -/
theorem State.restoreChoice_candidate {s : State} {i : Ch} (h : s.restoreChoice = some i) :
    s.restoreCandidate i = true ∧ s.chans[i].restLock = none := by
  unfold State.restoreChoice at h; split at h
  · have := List.find?_some h
    simpa only [Bool.and_eq_true, Option.isNone_iff_eq_none] using this
  · cases h

/-- A step leaves a channel that it does not take as it stands. -/
theorem State.takeStep_other (s : State) (i : Ch) (h1 : s.shedCandidate i = false) (h2 : s.restoreCandidate i = false) :
    s.takeStep.chans[i] = s.chans[i] := by
  unfold State.takeStep; split
  · rename_i j hj
    rw [State.shedStep_get, if_neg]
    rintro rfl; rw [(State.shedChoice_candidate hj).1] at h1; cases h1
  · split
    · rename_i j hj
      rw [State.restoreStep_get, if_neg]
      rintro rfl; rw [(State.restoreChoice_candidate hj).1] at h2; cases h2
    · rfl

/-- A marked channel is no shed candidate (R98). -/
theorem State.shedCandidate_marked (s : State) (i : Ch) (h : s.chans[i].mark.isSome = true) :
    s.shedCandidate i = false := by
  have : s.chans[i].mark.isNone = false := by rw [← Option.not_isSome, h]; rfl
  unfold State.shedCandidate; rw [this, Bool.and_false]

/-- A channel of the must-shed set is no restore candidate (R98). -/
theorem State.restoreCandidate_must (s : State) (i : Ch) (h : s.mustShed i = true) : s.restoreCandidate i = false := by
  unfold State.restoreCandidate; rw [h]; simp only [Bool.not_true, Bool.and_false]

theorem State.massShed_get (s : State) (i : Ch) :
    s.massShed.chans[i] = s.chans[i] ∨
    s.massShed.chans[i] = (s.markEach fun j => if s.shedCandidate j then some s.shedMark else none).chans[i] := by
  unfold State.massShed; split
  · right; simp only
  · left; rfl

/-- The marking that precedes a step does not touch a marked channel (R97). -/
theorem State.marking_marked (s : State) (i : Ch) (h : s.chans[i].mark.isSome = true) :
    s.massShed.markSettle.chans[i] = s.chans[i] := by
  have h1 : s.massShed.chans[i] = s.chans[i] := by
    rcases s.massShed_get i with e | e
    · exact e
    · rw [e, State.markEach_get, s.shedCandidate_marked i h]; rfl
  have : s.massShed.markSettle.chans[i] = s.massShed.chans[i] := by
    unfold State.markSettle; split
    · rw [← h1] at h
      rw [State.markEach_get]; simp only [State.arrivalMark, h, if_true]
    · rfl
  rw [this, h1]

/-- A marked channel of the must-shed set is left as it stands by a reconsideration (R102, R105). -/
theorem State.reconsider_held (s : State) (i : Ch) (h : s.chans[i].mark.isSome = true) (hm : s.mustShed i = true) :
    s.reconsider.chans[i] = s.chans[i] := by
  have e := s.marking_marked i h
  have hm' : s.massShed.markSettle.mustShed i = true := by
    rw [(s.massShed_moves.trans (State.markSettle_moves _)).mustShed, hm]
  have : s.reconsider.chans[i] = s.massShed.markSettle.takeStep.chans[i] := by simp only [State.reconsider]
  rw [this, State.takeStep_other, e]
  · exact State.shedCandidate_marked _ _ (by rw [e]; exact h)
  · exact State.restoreCandidate_must _ _ hm'

/-- A marked channel of the must-shed set whose output stands as the law says is left as it stands when the outputs are
settled. -/
theorem State.settleOutputs_held (n : Nat) (s : State) (i : Ch) (h : s.chans[i].mark.isSome = true)
    (hm : s.mustShed i = true) (hl : s.chans[i].law = s.chans[i].out) :
    (s.settleOutputs n).chans[i] = s.chans[i] := by
  have hd : s.derive.chans[i] = s.chans[i] := by rw [State.derive_get]; exact Chan.derive_of_law _ _ hl
  induction n generalizing s with
  | zero => exact hd
  | succ n ih =>
    unfold State.settleOutputs; split
    · rfl
    · have hr : s.derive.reconsider.chans[i] = s.chans[i] := by
        rw [State.reconsider_held, hd]
        · rw [hd]; exact h
        · rw [s.derive_moves.mustShed]; exact hm
      rw [ih, hr]
      · rw [hr]; exact h
      · rw [(s.derive_moves.trans (State.reconsider_moves _)).mustShed]; exact hm
      · rw [hr]; exact hl
      · rw [State.derive_get]; apply Chan.derive_of_law; rw [hr]; exact hl

theorem State.resolve_held (s : State) (i : Ch) (h : s.chans[i].mark.isSome = true) (hm : s.mustShed i = true)
    (hl : s.chans[i].law = s.chans[i].out) : s.resolve.chans[i] = s.chans[i] := by
  have hr := s.reconsider_held i h hm
  rw [State.resolve, State.settleOutputs_held, hr]
  · rw [hr]; exact h
  · rw [s.reconsider_moves.mustShed]; exact hm
  · rw [hr]; exact hl

/-! ### At depth 0 -/

/-- At depth 0 no channel must be shed (R96). -/
theorem State.mustShed_zero (s : State) (h : s.tiers.depth = 0) (i : Ch) : s.mustShed i = false := by
  simp only [State.mustShed, h]; cases s.chans[i].cfg.cls <;> simp

/-- At depth 0 and outside SETTLE a reconsideration marks no channel: the law of no output turns to off by it. -/
theorem State.reconsider_law (s : State) (h : s.tiers.depth = 0) (hs : s.seq.st ≠ .settle) (i : Ch)
    (hl : s.chans[i].law = true) : s.reconsider.chans[i].law = true := by
  have hc : ∀ j, s.shedCandidate j = false := fun j => by simp [State.shedCandidate, s.mustShed_zero h]
  have h1 : s.massShed = s := by unfold State.massShed; simp [h]
  have h2 : s.markSettle = s := by unfold State.markSettle; simp [hs]
  have : s.reconsider.chans[i] = s.takeStep.chans[i] := by simp only [State.reconsider, h1, h2]
  rw [this]
  unfold State.takeStep; split
  · rename_i j hj; have := (State.shedChoice_candidate hj).1; rw [hc j] at this; cases this
  · split
    · rw [State.restoreStep_get]; split
      · revert hl; simp only [Chan.law]
        cases s.chans[i].mark <;> simp +contextual
      · exact hl
    · exact hl

theorem Chan.derive_law_true (now : Nat) (c : Chan) (h : c.law = true) : (c.derive now).law = true := by
  rcases c.derive_cases now with ⟨_, e⟩ | ⟨_, _, e⟩ | ⟨h', _⟩ | ⟨h', _⟩
  · rw [e]; exact h
  · rw [e]; exact h
  · rw [h] at h'; cases h'
  · rw [h] at h'; cases h'

/-- At depth 0 and outside SETTLE an output that the law calls on is on when the outputs have been settled. -/
theorem State.settleOutputs_on (n : Nat) (s : State) (h : s.tiers.depth = 0) (hs : s.seq.st ≠ .settle) (i : Ch)
    (hl : s.chans[i].law = true) : (s.settleOutputs n).chans[i].out = true := by
  rw [State.settleOutputs_lawful]
  induction n generalizing s with
  | zero => rw [State.settleOutputs, State.derive_get]; exact Chan.derive_law_true _ _ hl
  | succ n ih =>
    unfold State.settleOutputs; split
    · exact hl
    · have hd : s.derive.tiers.depth = 0 := by rw [s.derive_moves.tiers]; exact h
      have hs' : s.derive.seq.st ≠ .settle := by rw [State.derive_seq]; exact hs
      refine ih _ (by rw [(State.reconsider_moves _).tiers]; exact hd) (State.reconsider_st _ hs') ?_
      refine State.reconsider_law _ hd hs' _ ?_
      rw [State.derive_get]; exact Chan.derive_law_true _ _ hl

theorem State.resolve_on (s : State) (h : s.tiers.depth = 0) (hs : s.seq.st ≠ .settle) (i : Ch)
    (hl : s.chans[i].law = true) : s.resolve.chans[i].out = true :=
  State.settleOutputs_on _ _ (by rw [s.reconsider_moves.tiers]; exact h) (s.reconsider_st hs) i
    (s.reconsider_law h hs i hl)

end Sys2Proof.Machine
end

