-- ==== Sys2Proof/Laws/Requests.lean ====
section
/-! SUPPORT. Laws about requests and events: how one is taken, and what its answer makes of the part. -/

namespace Sys2Proof.Machine

/-! ### Events -/

/-- An event outside a reset acts on the part with the time passed (R144). -/
theorem State.event_eq (s : State) (dt : Nat) (f : State → State) (h : s.inReset = none) :
    s.event dt f = .next (f (s.elapse dt)) := by
  simp [State.event, State.awake, h]

/-- An event during a reset only lets the time pass (R144). -/
theorem State.event_reset (s : State) (dt : Nat) (f : State → State) (h : s.inReset.isSome = true) :
    s.event dt f = .next (s.elapse dt) := by
  simp [State.event, State.awake, h]

/-! ### Requests -/

/-- A request that is heard is handled with the time passed (R153). -/
theorem State.request_eq (s : State) (dt kind : Nat) (r : Req) (f : List Nat → State → Answer) (h : s.Hears) :
    s.request dt kind r f = .next ((s.elapse dt).handle kind r f) := by
  simp [State.request, State.awake, h.awake, h.receiving, h.staying]

/-- An addressed request of a kind other than RESTART leaves the part as its answer does, with the reply in preparation
(R154, R156). -/
theorem State.request_addressed (s : State) (dt kind : Nat) (tag : Byte) (p : List Byte)
    (f : List Nat → State → Answer) (h : s.Hears) (hk : kind ≠ 0x41) :
    s.request dt kind ⟨false, tag, p⟩ f =
      .next ((f (p.map BitVec.toNat) (s.taken dt)).prepare kind tag false) := by
  rw [State.request_eq s dt kind _ f h]
  simp [State.handle, State.taken, hk]

/-- The reply of an answer, where the answer leaves the clock and the straps alone. -/
theorem Answer.prepare_eq (a : Answer) (kind : Nat) (tag : Byte) (hk : kind < 0x80) :
    a.prepare kind tag false = a.state.answered kind tag a.status a.payload := by
  simp [Answer.prepare, State.answered, replyKind, hk, State.earliestReply]

/-- An addressed request is answered (R156). -/
theorem State.request_answered (s : State) (dt kind : Nat) (tag : Byte) (p : List Byte)
    (f : List Nat → State → Answer) (h : s.Hears) (hk : kind < 0x41) {a : Answer}
    (ha : f (p.map BitVec.toNat) (s.taken dt) = a) :
    s.request dt kind ⟨false, tag, p⟩ f = .next (a.state.answered kind tag a.status a.payload) := by
  rw [State.request_addressed s dt kind tag p f h (by omega), ha, Answer.prepare_eq _ _ _ (by omega)]

/-! What the taking of a request leaves alone (R153). -/

@[simp] theorem State.taken_now (s : State) (dt : Nat) : (s.taken dt).now = s.now + dt := by
  simp only [State.taken, State.frameGood, State.elapse]
@[simp] theorem State.taken_inReset (s : State) (dt : Nat) : (s.taken dt).inReset = s.inReset := by
  simp only [State.taken, State.frameGood, State.elapse]
@[simp] theorem State.taken_scanner (s : State) (dt : Nat) : (s.taken dt).scanner = s.scanner := by
  simp only [State.taken, State.frameGood, State.elapse]
@[simp] theorem State.taken_est (s : State) (dt : Nat) : (s.taken dt).est = s.est := by
  simp only [State.taken, State.frameGood, State.elapse]
@[simp] theorem State.taken_tiers (s : State) (dt : Nat) : (s.taken dt).tiers = s.tiers := by
  simp only [State.taken, State.frameGood, State.elapse]
@[simp] theorem State.taken_chans (s : State) (dt : Nat) : (s.taken dt).chans = s.chans := by
  simp only [State.taken, State.frameGood, State.elapse]
@[simp] theorem State.taken_seq (s : State) (dt : Nat) : (s.taken dt).seq = s.seq := by
  simp only [State.taken, State.frameGood, State.elapse]
@[simp] theorem State.taken_holds (s : State) (dt : Nat) : (s.taken dt).holds = s.holds := by
  simp only [State.taken, State.frameGood, State.elapse]
@[simp] theorem State.taken_power (s : State) (dt : Nat) : (s.taken dt).power = s.power := by
  simp only [State.taken, State.frameGood, State.elapse]
@[simp] theorem State.taken_notices (s : State) (dt : Nat) : (s.taken dt).notices = s.notices := by
  simp only [State.taken, State.frameGood, State.elapse]
@[simp] theorem State.taken_tally (s : State) (dt : Nat) : (s.taken dt).tally = s.tally := by
  simp only [State.taken, State.frameGood, State.elapse]
@[simp] theorem State.taken_store (s : State) (dt : Nat) : (s.taken dt).store = s.store := by
  simp only [State.taken, State.frameGood, State.elapse]
@[simp] theorem State.taken_pending (s : State) (dt : Nat) : (s.taken dt).pending = s.pending := by
  simp only [State.taken, State.frameGood, State.elapse]

@[simp] theorem State.taken_held (s : State) (dt : Nat) (i : Ch) : (s.taken dt).held i = s.held i := by
  simp only [State.held, State.taken_holds]
@[simp] theorem State.taken_isSaving (s : State) (dt : Nat) : (s.taken dt).isSaving = s.isSaving := by
  simp only [State.isSaving, State.taken_store]
@[simp] theorem State.taken_fitted (s : State) (dt : Nat) (i : Ch) : (s.taken dt).fitted i = s.fitted i := by
  simp only [State.fitted, State.taken_chans]
@[simp] theorem State.taken_anyForce (s : State) (dt : Nat) : (s.taken dt).anyForce = s.anyForce := by
  simp only [State.anyForce, State.taken_chans]
@[simp] theorem State.taken_conditions (s : State) (dt : Nat) : (s.taken dt).conditions = s.conditions := by
  have h1 : (s.taken dt).cutoffCondition = s.cutoffCondition := by simp only [State.cutoffCondition, State.taken_tiers]
  have h2 : (s.taken dt).latchCondition = s.latchCondition := by simp only [State.latchCondition, State.taken_chans]
  simp only [State.conditions, h1, h2, State.taken_scanner]
@[simp] theorem State.taken_sourcePresent (s : State) (dt : Nat) : (s.taken dt).sourcePresent = s.sourcePresent := by
  simp only [State.sourcePresent, State.taken_power]
@[simp] theorem State.taken_gather (s : State) (dt : Nat) : (s.taken dt).gather = s.gather := by
  simp only [State.gather, State.taken_est, State.taken_tiers, State.taken_chans, State.taken_seq,
    State.taken_notices, State.taken_tally, State.taken_power]

/-! What a reply in preparation leaves alone (R154). -/

@[simp] theorem State.answered_now (s : State) (k : Nat) (tag : Byte) (st : Status) (p : List Byte) :
    (s.answered k tag st p).now = s.now := by simp only [State.answered]
@[simp] theorem State.answered_chans (s : State) (k : Nat) (tag : Byte) (st : Status) (p : List Byte) :
    (s.answered k tag st p).chans = s.chans := by simp only [State.answered]
@[simp] theorem State.answered_holds (s : State) (k : Nat) (tag : Byte) (st : Status) (p : List Byte) :
    (s.answered k tag st p).holds = s.holds := by simp only [State.answered]
@[simp] theorem State.answered_tally (s : State) (k : Nat) (tag : Byte) (st : Status) (p : List Byte) :
    (s.answered k tag st p).tally = s.tally := by simp only [State.answered]
@[simp] theorem State.answered_seq (s : State) (k : Nat) (tag : Byte) (st : Status) (p : List Byte) :
    (s.answered k tag st p).seq = s.seq := by simp only [State.answered]
@[simp] theorem State.answered_tiers (s : State) (k : Nat) (tag : Byte) (st : Status) (p : List Byte) :
    (s.answered k tag st p).tiers = s.tiers := by simp only [State.answered]
@[simp] theorem State.answered_est (s : State) (k : Nat) (tag : Byte) (st : Status) (p : List Byte) :
    (s.answered k tag st p).est = s.est := by simp only [State.answered]
@[simp] theorem State.answered_power (s : State) (k : Nat) (tag : Byte) (st : Status) (p : List Byte) :
    (s.answered k tag st p).power = s.power := by simp only [State.answered]
@[simp] theorem State.answered_notices (s : State) (k : Nat) (tag : Byte) (st : Status) (p : List Byte) :
    (s.answered k tag st p).notices = s.notices := by simp only [State.answered]
@[simp] theorem State.answered_scanner (s : State) (k : Nat) (tag : Byte) (st : Status) (p : List Byte) :
    (s.answered k tag st p).scanner = s.scanner := by simp only [State.answered]
@[simp] theorem State.answered_store (s : State) (k : Nat) (tag : Byte) (st : Status) (p : List Byte) :
    (s.answered k tag st p).store = s.store := by simp only [State.answered]
@[simp] theorem State.answered_inReset (s : State) (k : Nat) (tag : Byte) (st : Status) (p : List Byte) :
    (s.answered k tag st p).inReset = s.inReset := by simp only [State.answered]
@[simp] theorem State.answered_pending (s : State) (k : Nat) (tag : Byte) (st : Status) (p : List Byte) :
    (s.answered k tag st p).pending = s.pending := by simp only [State.answered]

/-- An answered request holds its reply (R154). -/
theorem State.answered_replies (s : State) (k : Nat) (tag : Byte) (st : Status) (p : List Byte) :
    (s.answered k tag st p).Replies k tag st p := by simp [State.Replies, State.answered]

/-- A reply does not bear on what a move spares. -/
theorem State.Spares.answered {s t : State} (h : s.Spares t) (k : Nat) (tag : Byte) (st : Status) (p : List Byte) :
    s.Spares (t.answered k tag st p) :=
  ⟨h.inReset, h.scanner, h.est, h.tiers, h.order, h.sequence, h.settleStart, h.power, h.notices, h.store, h.selectors,
    h.pending⟩

/-! ### Moves -/

/-- A move spares everything but the channels, the counts, and the Sequencer's own state. -/
theorem State.Moves.spares {s t : State} (h : s.Moves t) : s.Spares t :=
  ⟨h.inReset, h.scanner, h.est, h.tiers, h.order, h.seqCfg, h.settleStart, h.power, h.notices, h.store,
    fun k => (h.tally k).sel, h.pending⟩

/-- A move keeps each channel's settings, demand, protection, usage and force. -/
theorem Chan.Moves.keeps {c d : Chan} (h : c.Moves d) : c.Keeps d :=
  ⟨h.cfg, h.demand, h.prot, h.retries, h.retryEnd, h.usage, h.force⟩

/-! ### Channel numbers (R68) -/

theorem channelOf_number (i : Ch) : channelOf (i.val + 1) = some i := by simp [channelOf]

/-- The number of a fitted channel names it, and that of any other names none (R68, R156). -/
theorem State.fittedChannel_number (s : State) (i : Ch) :
    s.fittedChannel (i.val + 1) = if s.chans[i].cfg.fitted then some i else none := by
  rw [State.fittedChannel, channelOf_number]
  cases h : s.chans[i].cfg.fitted <;> simp [State.fitted] <;> simpa using h

/-! ### Characters of a payload (R150) -/

/-- What is left of a time, rounded up, with an absent moment taken as now. -/
theorem remaining_eq (now d : Nat) (hd : 0 < d) (e : Option Nat) :
    remaining now d e = (e.getD now - now + (d - 1)) / d := by
  cases e with
  | none => simp [remaining]; rw [Nat.div_eq_of_lt]; omega
  | some x => simp only [remaining, ceilDiv, Option.getD_some]; congr 1; omega

@[simp] theorem u8_number (i : Ch) : (u8 (i.val + 1)).map BitVec.toNat = [i.val + 1] := by
  simp only [u8, List.map_cons, List.map_nil, BitVec.toNat_ofNat]; congr 1; omega

@[simp] theorem u8_map (n : Nat) : (u8 n).map BitVec.toNat = [n % 256] := by simp [u8]
@[simp] theorem u16_map (n : Nat) : (u16 n).map BitVec.toNat = [n / 256 % 256, n % 256] := by simp [u16]

/-- Two characters carry a number below 65,536 (R150). -/
theorem be16_split (n : Nat) (h : n < 65536) : be16 (n / 256 % 256) (n % 256) = n := by
  simp only [be16]; omega

end Sys2Proof.Machine
end

