-- ==== Sys2Proof/Laws/Frames.lean ====
section
/-! SUPPORT. Laws about reception: what the samples of a character give, and what a data character and the last character of a
frame do. -/

namespace Sys2Proof.Machine

theorem bits_sum : ∀ d : Byte,
    (List.finRange 8).foldl (fun n (k : Fin 8) => n + bitIf (d[k]) (2 ^ k.val)) 0 = d.toNat := by decide +kernel

/-- The data of a character whose bits agree with `d` is `d` (R147). -/
theorem charData_eq (c : CharSamples) (d : Byte) (h : ∀ k : Fin 8, majority c.data[k] = d[k]) :
    charData c = d.toNat := by
  have e : charData c = (List.finRange 8).foldl (fun n k => n + bitIf (d[k]) (2 ^ k.val)) 0 := by
    simp only [charData, h]
  rw [e, bits_sum]

/-- The part with a character received whole: the time has passed, and its noise is counted (R147). -/
def State.received (s : State) (dt : Nat) (c : CharSamples) : State :=
  { s with
    now := s.now + dt
    link := { s.link with
      charFall := none
      charNoise := false
      counts := { s.link.counts with
        noise := if s.link.charNoise || noisy c then min 65535 (s.link.counts.noise + 1) else s.link.counts.noise } } }

/-- A data character in COLLECT joins the frame (R149). -/
theorem exec_data (dt fall : Nat) (d : Byte) (c : CharSamples) (s : State) (h : s.inReset = none)
    (hr : s.link.rx = .collect) (hf : s.link.charFall = some fall)
    (ht : fall + 10 * s.power.bitTime + s.power.bitTime / 2 ≤ s.now + dt)
    (hd : ∀ k : Fin 8, majority c.data[k] = d[k]) (hm : majority c.mark = false) (hs : majority c.stop = true) :
    exec (.characterTaken dt c) s = .next ((s.received dt c).data d.toNat) := by
  simp only [exec, execCharacterTaken]
  rw [State.event_eq _ _ _ h]
  have e1 : (s.elapse dt).link.charFall = some fall := by simpa using hf
  simp only [e1]
  have e2 : (s.elapse dt).link.rx ≠ .send ∧ (s.elapse dt).takenAt fall ≤ (s.elapse dt).now := by
    simp [hr, State.takenAt, State.elapse]; exact ht
  rw [if_pos e2]
  simp only [State.takeChar, hs, if_true, hm, charData_eq c d hd, State.character]
  have e3 : ((s.elapse dt).onLink fun l =>
      { l.count (fun k => if ((s.elapse dt).link.charNoise || noisy c) = true then { k with noise := bump k.noise } else k)
        with charFall := none, charNoise := false }) = s.received dt c := by
    simp only [State.onLink, State.elapse, Link.count, State.received, bump, Config.countMax]
    split <;> simp_all
  rw [e3]
  simp [State.received, hr]

/-- The frame that `State.data` sees, in its parts: it is accepted when it is whole and its CRC matches (R150, R151, R153). -/
theorem State.data_frame (s : State) (a kind tag d : Byte) (body : List Byte) (hl : body.length ≤ 56)
    (hb : s.link.buffer ++ [d] = [a, BitVec.ofNat 8 (body.length + 2), kind, tag] ++ body ++
      u16 (crc16 ([a, BitVec.ofNat 8 (body.length + 2), kind, tag] ++ body)).toNat) :
    s.data d.toNat = s.handle kind.toNat ⟨decide (a = 0), tag, body⟩ (answerKind kind.toNat) := by
  have two : ∀ n, (u16 n).length = 2 := fun _ => rfl
  have hbuf : s.link.buffer ++ [BitVec.ofNat 8 d.toNat] = s.link.buffer ++ [d] := by simp
  have hlen : (s.link.buffer ++ [d]).length = body.length + 2 + 4 := by rw [hb]; simp [two]
  have h1 : ((s.link.buffer ++ [d])[1]?.map BitVec.toNat).getD 0 = body.length + 2 := by rw [hb]; simp; omega
  have hn : body.length + 2 + 4 - 2 = ([a, BitVec.ofNat 8 (body.length + 2), kind, tag] ++ body).length := by simp
  have htake : (s.link.buffer ++ [d]).take ((s.link.buffer ++ [d]).length - 2) =
      [a, BitVec.ofNat 8 (body.length + 2), kind, tag] ++ body := by
    rw [hlen, hb, hn, List.take_left]
  have hdrop : (s.link.buffer ++ [d]).drop ((s.link.buffer ++ [d]).length - 2) =
      u16 (crc16 ([a, BitVec.ofNat 8 (body.length + 2), kind, tag] ++ body)).toNat := by
    rw [hlen, hb, hn, List.drop_left]
  simp only [State.data, hbuf, h1]
  rw [if_neg (by rw [hlen]; omega), if_pos hlen, if_pos (by simp only [crcMatches, htake, hdrop]; simp), hb]
  simp only [List.cons_append, State.acceptFrame]
  simp [two]

/-- The handling of a request does not see the noise of the character that completed its frame. -/
theorem State.received_handle (s : State) (dt : Nat) (c : CharSamples) (kind : Nat) (r : Req)
    (f : List Nat → State → Answer) :
    (s.received dt c).handle kind r f =
      (State.elapse { s with link := { s.link with counts := (s.received dt c).link.counts } } dt).handle kind r f := by
  have : (s.received dt c).frameGood =
      (State.elapse { s with link := { s.link with counts := (s.received dt c).link.counts } } dt).frameGood := by
    simp [State.received, State.frameGood, State.elapse]
  simp only [State.handle, this]

end Sys2Proof.Machine
end

