-- ==== Sys2Proof/Laws/Operations.lean ====
section
/-! SUPPORT. Laws about the smaller operations: what each can do, said once. -/

namespace Sys2Proof.Machine

/-! ### Arithmetic in words -/

theorem clampNat_range (lo hi n : Nat) (h : lo ≤ hi) : lo ≤ clampNat lo hi n ∧ clampNat lo hi n ≤ hi := by
  simp only [clampNat]; omega

theorem clampNat_of_range (lo hi n : Nat) (h1 : lo ≤ n) (h2 : n ≤ hi) : clampNat lo hi n = n := by
  simp only [clampNat]; omega

theorem clampToNat_le (hi : Nat) (z : Int) : clampToNat hi z ≤ hi := by
  simp only [clampToNat, clampInt]; omega

theorem clampToNat_of_range (hi : Nat) (z : Int) (h1 : 0 ≤ z) (h2 : z ≤ hi) : (clampToNat hi z : Int) = z := by
  simp only [clampToNat, clampInt]; omega

/-! ### The hold list (R121, R125) -/

/-- The entries of a hold list after one is placed are that one and the others (R121). -/
theorem mem_placeHold (e x : HoldEntry) (l : List HoldEntry) : x ∈ placeHold e l ↔ x = e ∨ x ∈ l := by
  have h := congrArg (x ∈ ·) (List.takeWhile_append_dropWhile (p := fun y => decide (y.expiry ≤ e.expiry)) (l := l))
  simp only [List.mem_append, eq_iff_iff] at h
  simp only [placeHold, List.mem_append, List.mem_cons]
  rw [← h]; tauto

theorem length_placeHold (e : HoldEntry) (l : List HoldEntry) : (placeHold e l).length = l.length + 1 := by
  have h := congrArg List.length
    (List.takeWhile_append_dropWhile (p := fun y => decide (y.expiry ≤ e.expiry)) (l := l))
  simp only [List.length_append] at h
  simp only [placeHold, List.length_append, List.length_cons]; omega

/-- An entry is left by a removal when its channel is not among those removed (R125). -/
theorem State.mem_dropHolds (s : State) (p : Ch → Bool) (e : HoldEntry) :
    e ∈ (s.dropHolds p).holds ↔ e ∈ s.holds ∧ p e.ch = false := by
  simp [State.dropHolds, List.mem_filter]

/-- A moment kept to the millisecond lies less than one before it (R121). -/
theorem toMillisecond_range (n : Nat) : toMillisecond n ≤ n ∧ n < toMillisecond n + Config.unitsPerMs := by
  simp only [toMillisecond, Config.unitsPerMs]; omega

/-! ### The line (R147, R150, R154) -/

@[simp] theorem LineChar.length_levels (c : LineChar) : c.levels.length = 11 := by simp [LineChar.levels]

@[simp] theorem Sending.length_levels (x : Sending) : x.levels.length = 11 * x.chars.length := by
  simp [Sending.levels, List.length_flatMap, Nat.mul_comm]

@[simp] theorem length_lineChars (l : List Byte) : (lineChars l).length = l.length := by cases l <;> simp [lineChars]

/-- A reply has its address, LEN, KIND, TAG, status and two characters of CRC about its payload (R150, R156). -/
@[simp] theorem Reply.length_frame (unit : Nat) (r : Reply) : (r.frame unit).length = r.payload.length + 7 := by
  simp [Reply.frame, u8, u16]

/-- The level of bit `k` of a reply going out is bit `k % 11` of character `k / 11` (R147, R154). -/
theorem levels_getElem? (l : List LineChar) (k : Nat) :
    (l.flatMap LineChar.levels)[k]? = (l[k / 11]?).bind fun c => c.levels[k % 11]? := by
  induction l generalizing k with
  | nil => simp
  | cons c l ih =>
    rw [List.flatMap_cons, List.getElem?_append, LineChar.length_levels]
    split
    · rename_i h; rw [Nat.div_eq_of_lt h, Nat.mod_eq_of_lt h]; rfl
    · rename_i h
      rw [ih, show k / 11 = (k - 11) / 11 + 1 by omega, show k % 11 = (k - 11) % 11 by omega]; rfl

/-- LTX stands at mark while nothing goes out (R154). -/
theorem State.ltx_idle (s : State) (h : s.link.sending = none) : s.ltx = true := by simp [State.ltx, h]

/-- The receiver reads nothing when no character is in reception and no start bit of a false start is being read (R147). -/
theorem State.reading_eq_false (s : State) (h : s.link.charFall = none) (f : ∀ e, s.link.falseEnd = some e → e ≤ s.now) :
    s.reading = false := by
  unfold State.reading; rw [h]
  cases e : s.link.falseEnd with
  | none => rfl
  | some e' => simpa using f e' e

/-! ### The readings (R7) -/

/-- A reading at VBS lies in the range of the conversion, whatever the input (R7). -/
theorem readVoltage_le (z : Int) : readVoltage z ≤ 32767 := by
  unfold readVoltage; split
  · have := (Config.vbsBelowZero z).isLt; omega
  · exact clampToNat_le _ _

/-- An input from zero to full scale is read as it stands (R7). -/
theorem readVoltage_of_range (z : Int) (h1 : 0 ≤ z) (h2 : z ≤ 32767) : (readVoltage z : Int) = z := by
  rw [readVoltage, if_neg (by omega)]; exact clampToNat_of_range _ _ h1 h2

/-! ### The Estimator (R22, R24, R26, R34) -/

theorem length_joinWindow (w : List Int) (i : Int) : (joinWindow w i).length ≤ 8 := by
  simp only [joinWindow, List.length_append, List.length_drop, List.length_singleton]; omega

theorem compensate_le (v : Nat) (a : Int) (r : Nat) : compensate v a r ≤ 32767 := clampToNat_le _ _

theorem integrate_le (full q : Nat) (i : Int) (k : Nat) : integrate full q i k ≤ full := clampToNat_le _ _

/-- A segment of the curve gives no more than the greater of its ends (R34). -/
theorem segmentReserve_le (p p' : CurvePoint) (v n : Nat) (h1 : p.reserve ≤ n) (h2 : p'.reserve ≤ n) (hv : v < p'.mv) :
    segmentReserve p p' v ≤ n := by
  simp only [segmentReserve]
  by_cases h : p.mv < p'.mv
  · have : (v - p.mv) * (p'.reserve - p.reserve) / (p'.mv - p.mv) ≤ p'.reserve - p.reserve := by
      apply Nat.div_le_of_le_mul
      exact Nat.mul_le_mul_right _ (by omega)
    omega
  · have : v - p.mv = 0 := by omega
    simp [this]; exact h1

/-! ### The Tier Monitor (R48, R58) -/

/-- What an evaluation can do to a record: nothing, an entry to ACTIVE that stores x, or a move that keeps its settings and
its confirming value (R48, R50). -/
theorem TierRecord.evaluate_cases (r : TierRecord) (x : Nat) (bypass : Bool) :
    (r.evaluate x bypass).1 = r ∨ (r.evaluate x bypass).1 = r.enter x ∨
      ∃ st n, (r.evaluate x bypass).1 = r.go st n := by
  unfold TierRecord.evaluate
  split <;> (repeat' split) <;> simp

@[simp] theorem TierRecord.evaluate_cfg (r : TierRecord) (x : Nat) (bypass : Bool) :
    (r.evaluate x bypass).1.cfg = r.cfg := by
  rcases r.evaluate_cases x bypass with e | e | ⟨_, _, e⟩ <;> rw [e] <;> rfl

@[simp] theorem TierRecord.suppression_cfg (r : TierRecord) (b : Bool) : (r.suppression b).cfg = r.cfg := by
  unfold TierRecord.suppression; repeat' split
  all_goals rfl

@[simp] theorem TierRecord.suppression_conf (r : TierRecord) (b : Bool) : (r.suppression b).conf = r.conf := by
  unfold TierRecord.suppression; repeat' split
  all_goals rfl

@[simp] theorem TierRecord.write_cfg (r : TierRecord) (c : TierSettings) (b : Bool) : (r.write c b).cfg = c := by
  unfold TierRecord.write; split
  · exact TierRecord.suppression_cfg _ _
  · rfl

/-! ### The notices (R161 to R163) -/

@[simp] theorem Notices.form_latch (n : Notices) : n.form.latch = n.latch := rfl
@[simp] theorem Notices.form_ackMark (n : Notices) : n.form.ackMark = n.ackMark := rfl
@[simp] theorem Notices.form_mask (n : Notices) : n.form.mask = n.mask := rfl

@[simp] theorem Notices.edge_mask (n : Notices) (c : NoticeCode) (b : Bool) : (n.edge c b).mask = n.mask := by
  unfold Notices.edge; split <;> rfl

@[simp] theorem Notices.level_mask (n : Notices) (c : NoticeCode) (a b : Bool) : (n.level c a b).mask = n.mask := by
  unfold Notices.level; repeat' split
  all_goals rfl

/-- A level notice whose condition does not change is left as it stands (R162). -/
@[simp] theorem Notices.level_same (n : Notices) (c : NoticeCode) (b : Bool) : n.level c b b = n := by
  cases b <;> rfl

/-! ### Power, force lapse and reset -/

/-- Leaving DOZE leaves a part in RUN as it stands (R137). -/
theorem State.exitDoze_run (s : State) (h : s.power.st ≠ .doze) : s.exitDoze = s := by
  simp [State.exitDoze, h]

/-- A lapse that finds no force does nothing (R132). -/
theorem State.lapse_none (s : State) (h : s.anyForce = false) : s.lapse = s := by simp [State.lapse, h]

/-- No force is left where none is found (R128). -/
theorem State.anyForce_eq_false (s : State) : s.anyForce = false ↔ ∀ i : Ch, s.chans[i].force = .none := by
  simp [State.anyForce, channels, List.any_eq_false]

/-- A source that acts during a reset is recorded, and nothing else changes (R142). -/
theorem State.resetBy_again (s : State) (src : ResetSource) (r : ResetInfo) (h : s.inReset = some r) :
    s.resetBy src = { s with inReset := some (r.act src) } := by
  simp [State.resetBy, h]

end Sys2Proof.Machine
end

