-- ==== Sys2Proof/WellFormed.lean ====
section
/-! DEFINITION. WellFormed: the commands that a frame of the link can spell.

The other operands are bounded by their types (a channel, a strap, a sample) or saturated by the conversion
(R7 to R9), so the length of a payload is the one thing left to check (R150). -/

namespace Sys2Proof

/-- A payload of at most 56 characters, of which `used` stand before the part that the command carries. -/
def Req.fits (used : Nat) (r : Req) : Bool := decide (r.payload.length + used ≤ Config.payloadMax)

/-- The command can be spelled by a frame: its payload, with the section or selector that its row stands for,
holds at most 56 characters (R150). -/
def Instr.wellFormed : Instr → Bool
  | .ident _ r | .status _ r | .loadStatus _ r | .linkStatus _ r | .countersRead _ r | .measure _ r
  | .switch _ r | .hold _ r | .releaseHold _ r | .force _ r | .clearTrip _ r | .clearUsage _ r
  | .ack _ r | .mask _ r | .countersClear _ r | .clearLinkCounts _ r | .profileRead _ r | .move _ r
  | .save _ r | .loadDefaults _ r | .doze _ r | .restart _ r => r.fits 0
  | .profileWriteBattery _ r | .profileWriteTiers _ r | .profileWriteLoads _ r | .profileWriteCurve _ r
  | .profileWriteSequence _ r | .profileWriteNotice _ r | .profileWriteCounters _ r | .profileWriteDoze _ r
  | .setChargeReserve _ r | .setChargeFull _ r => r.fits 1
  | .startBit _ _ | .characterTaken _ _ | .breakHeld _ | .gap _ | .replyStart _ | .replyEnd _ | .linkQuiet _
  | .scanBegin _ | .scanComplete _ _ _ | .rawInputChange _ _ _ | .debouncedChange _ _ _ | .powerOn _
  | .supplyLow _ | .rstn _ | .resetEnd _ _ _ | .retryExpiry _ _ | .goodRun _ _ | .runLockExpiry _ _
  | .restLockExpiry _ _ | .blankingEnd _ _ | .shedSpacingEnd _ | .restoreSpacingEnd _ | .settleTimeEnd _
  | .holdExpiry _ _ | .saveEnd _ _ => true

end Sys2Proof
end

