-- ==== Sys2Proof/Tests/Slice0.lean ====
section
/-! SUPPORT. Tests: the well-formedness smoke, values worked by hand in the spec, one step of each kind of command, and for
each statement of `Certificates` a state that meets its hypotheses. -/

namespace Sys2Proof.Tests

open Sys2Proof.Machine

set_option Elab.async false

/-! ### Helpers -/

/-- An addressed request with TAG 7. -/
def rq (p : List Byte) : Req := ⟨false, 7, p⟩

/-- The state that a command leaves. -/
def after (c : Instr) (s : State) : State :=
  match exec c s with
  | .next t => t
  | .fault _ => s
  | .refused _ => s

/-- The status and the payload of the reply in preparation. -/
def answer (s : State) : Option (Status × List Byte) := s.link.reply.map fun r => (r.status, r.payload)

/-- The part outside SETTLE, with nothing to do. -/
def steady : State := { State.reset with seq := { State.reset.seq with st := .steady } }

/-- The same with INSTALL asserted. -/
def installed : State := { steady with power := { steady.power with install := ⟨true, true, none⟩ } }

/-- A channel that has demand ON and is on. -/
def onChan (cfg : LoadSettings) : Chan := { Chan.fresh cfg with out := true, demand := true, goodRun := some 0 }

/-- A part in the middle of its work: channel 1 is on and held; channel 2 is shed at depth 4; channel 3 is forced on; channel
4 is LATCHED, with its notice acknowledged; channel 5 waits for a retry; tier 4 is ACTIVE with 11,700 mV. -/
def lively : State :=
  { installed with
    now := 1000
    chans := Vector.ofFn fun i =>
      let c := onChan (factoryLoad i)
      if i = 0 then c
      else if i = 1 then { c with out := false, goodRun := none, mark := some ⟨.shed 4, 11700⟩, lastOff := ⟨.shed 4, 11700⟩ }
      else if i = 2 then { c with demand := false, force := .on }
      else if i = 3 then
        { c with out := false, goodRun := none, prot := .latched, retries := 2, mark := some ⟨.shed 4, 11700⟩ }
      else if i = 4 then
        { c with out := false, goodRun := none, prot := .tripWait, retries := 1, retryEnd := some 1000,
                 mark := some ⟨.shed 4, 11700⟩ }
      else Chan.fresh (factoryLoad i)
    tiers :=
      { recs := #v[⟨⟨.reserve, 300, 350, 50, 250, true⟩, .clear, 0, none⟩, ⟨⟨.reserve, 200, 250, 50, 250, true⟩, .clear, 0, none⟩,
          ⟨⟨.voltage, 12000, 12400, 100, 250, false⟩, .pending, 99, none⟩,
          ⟨⟨.voltage, 11800, 12300, 50, 250, false⟩, .active, 0, some 11700⟩,
          ⟨⟨.voltage, 11500, 12500, 30, 250, false⟩, .clear, 0, none⟩]
        depth := 4 }
    holds := [⟨0, 1000, 0⟩]
    notices := { latch := 0x011, ackMark := 0x010, mask := 0x001, alertn := true } }

/-! ### WellFormed -/

theorem test_wf_refuses_57_characters : (Instr.ident 0 (rq (List.replicate 57 0))).wellFormed = false := by decide
theorem test_wf_takes_56_characters : (Instr.ident 0 (rq (List.replicate 56 0))).wellFormed = true := by decide
theorem test_wf_refuses_56_after_a_section :
    (Instr.profileWriteLoads 0 (rq (List.replicate 56 0))).wellFormed = false := by decide
theorem test_wf_takes_55_after_a_selector : (Instr.setChargeFull 0 (rq (List.replicate 55 0))).wellFormed = true := by
  decide

/-! ### Values that the spec works by hand -/

/-- R151: the CRC over the text "123456789" is 0x29B1. -/
theorem test_crc_check : crc16 [0x31, 0x32, 0x33, 0x34, 0x35, 0x36, 0x37, 0x38, 0x39] = 0x29B1 := by decide +kernel
/-- R23. -/
theorem test_average_truncates : averageOf [12, 1525] = 768 ∧ averageOf [-1235, -1234] = -1234 := by decide
/-- R24: the six examples. -/
theorem test_compensated :
    [compensate 12180 4250 180, compensate 13400 (-1234) 180, compensate 13300 (-5) 100, compensate 13043 12 150,
      compensate 14260 (-150) 150, compensate 30000 2000 2000] = [12945, 13178, 13299, 13045, 14237, 32767] := by decide
/-- R34: two of the examples on the factory curve. -/
theorem test_curve_lookup : curveReserve factoryCurve 13045 = 450 ∧ curveReserve factoryCurve 14100 = 1000 := by
  decide +kernel
/-- R81: the delay at retry delay 60 s with 3 and with 4 retries used. -/
theorem test_retry_delay :
    let c := fun n => ({ Chan.fresh (factoryLoad 0) with retries := n } : Chan)
    (Chan.retrySeconds { c 3 with cfg := { factoryLoad 0 with retryDelay := 60 } } = 480) ∧
    (Chan.retrySeconds { c 4 with cfg := { factoryLoad 0 with retryDelay := 60 } } = 600) := by decide
/-- R145: the strapped rates of 9,600 and 57,600 bits per second. -/
theorem test_bit_times :
    Power.bitTime { State.reset.power with br := 0 } * 9600 = Config.unitsPerSecond ∧
    Power.bitTime { State.reset.power with br := 3 } * 57600 = Config.unitsPerSecond := by decide
/-- R94: channel 5 moved to position 2. -/
theorem test_move_to : (moveTo channels 4 2).take 6 = [0, 4, 1, 2, 3, 5] := by decide +kernel
/-- R169 and R176: a power-on reset of a part with its store erased ends in the state after reset. -/
theorem test_reset_is_the_end_of_a_power_on :
    after (.resetEnd 0 0 0) (after (.powerOn 0) State.reset) = State.reset := by decide +kernel

/-! ### One step -/

theorem test_ident : answer (after (.ident 0 (rq [])) State.reset) =
    some (.ok, [0x4C, 0x53, 0x32, 0x34, 1, 1, 0, 0, 1, 0, 0, 0xFF, 0xFF, 0xFF]) := by decide +kernel
theorem test_bad_length : answer (after (.measure 0 (rq [0])) State.reset) = some (.badLength, []) := by decide +kernel
theorem test_broadcast_is_not_answered : answer (after (.switch 0 ⟨true, 7, [0, 0, 1, 1]⟩) steady) = none := by
  decide +kernel
theorem test_switch_on : (after (.switch 0 (rq [0, 0, 1, 1])) steady).chans[0].out = true := by decide +kernel
theorem test_switch_in_settle_is_marked :
    (after (.switch 0 (rq [0, 0, 1, 1])) State.reset).chans[0].mark = some ⟨.reset, 0⟩ := by decide +kernel
theorem test_hold_clamps : answer (after (.hold 0 (rq [1, 0])) lively) = some (.clamped, [1, 1, 1, 1, 1]) := by
  decide +kernel
theorem test_force_needs_install : answer (after (.force 0 (rq [1, 1])) State.reset) = some (.denied, []) := by
  decide +kernel
theorem test_ack_keeps_a_present_condition : (after (.ack 0 (rq [0, 0x11])) lively).notices.latch = 0x010 := by
  decide +kernel
theorem test_mask_releases_alertn : (after (.mask 0 (rq [1, 0x01])) State.reset).notices.alertn = false := by
  decide +kernel
/-- R163 and R171: MASK is answered with the mask set and the latch set, a write to NOTICE with the stored mask set. -/
theorem test_notice_write_answers_its_stored_value :
    answer (after (.mask 0 (rq [1, 0x01])) State.reset) = some (.ok, [1, 1, 1, 1]) ∧
    answer (after (.profileWriteNotice 0 (rq [1, 0x01])) State.reset) = some (.ok, [1, 1]) := by decide +kernel
theorem test_set_charge_in_start : answer (after (.setChargeFull 0 (rq [0, 0])) installed) = some (.notApplicable, []) := by
  decide +kernel
theorem test_save_counts_an_erase : (after (.save 0 (rq [])) State.reset).store.eraseCount = 1 := by decide +kernel
theorem test_doze_counts_an_entry : (after (.doze 0 (rq [])) State.reset).power.st = .doze := by decide +kernel
/-- R138: the refusal for a force carries the power state, which is RUN while a force exists. -/
theorem test_doze_refused_by_a_force : answer (after (.doze 0 (rq [])) lively) = some (.notApplicable, [0]) := by
  decide +kernel
/-- R147: the first fall is a false start at 9,600 bits per second; a second one within its start bit begins nothing. -/
theorem test_false_start_is_read_first :
    let t := after (.startBit 0 ⟨true, true, true⟩) steady
    (after (.startBit 1079 ⟨false, false, false⟩) t).link.charFall = none ∧
    (after (.startBit 1080 ⟨false, false, false⟩) t).link.charFall = some 1080 := by decide +kernel
/-- R147: the bits of the character 0x81 with its mark bit set: start, data from the least significant bit, mark, stop. -/
theorem test_line_levels : LineChar.levels ⟨true, 0x81⟩ =
    [false, true, false, false, false, false, false, false, true, true, true] := by decide
/-- R121: entries whose expiry moments agree to the millisecond stand in the order of their placing. -/
theorem test_hold_order_to_the_millisecond :
    let s := after (.hold 15000 (rq [2, 2])) { lively with holds := [] }
    (after (.hold (Config.unitsPerMinute - 15900) (rq [5, 1])) s).holds.map HoldEntry.ch = [1, 4] := by decide +kernel
/-- The first scan of the worked sequence of the Charge Estimator: 13,043 mV and 12 cA give 162,000,000 mA·s. -/
theorem test_first_estimate :
    let t := after (.scanComplete (26 * Config.slotUnits) ⟨13043, 12, Vector.replicate 24 0⟩ ⟨false, false, false⟩) State.reset
    t.est.compensated = 13045 ∧ t.est.q = 162000000 ∧ t.est.reserve = 450 ∧ t.est.restTimer = 100 := by decide +kernel
theorem test_raw_level_starts_debounce :
    (after (.rawInputChange 5 .shore true) State.reset).power.shore = ⟨true, false, some (5 + 50 * 18432)⟩ := by
  decide +kernel
theorem test_rstn_keeps_usage :
    (after (.rstn 0) { State.reset with chans := State.reset.chans.set 0 { State.reset.chans[0] with usage := 9 } }).chans[0].usage = 9 := by
  decide +kernel
theorem test_hold_expiry : (after (.holdExpiry 0 0) lively).holds = [] := by decide +kernel
theorem test_retry_expiry_keeps_retries :
    (after (.retryExpiry 0 4) lively).chans[4].prot = .normal ∧ (after (.retryExpiry 0 4) lively).chans[4].retries = 1 := by
  decide +kernel

/-! ### States that meet the hypotheses of the statements -/

/-- The part with a save in progress. -/
def saving : State := { installed with store := { installed.store with saving := some factoryProfile } }

/-- The part past START. -/
def tracking : State := { installed with est := { installed.est with st := .tracking } }

/-- The part in DOZE, with a DOZE scan in flight. -/
def dozing : State :=
  { steady with
    power := { steady.power with st := .doze }
    scanner := { steady.scanner with inFlight := some ⟨.doze, Vector.replicate 24 false, 0⟩ } }

/-- The part in a reset that RSTN began. -/
def reset : State := after (.rstn 0) lively

/-- A part with four entries in its hold list. -/
def full : State :=
  { steady with
    chans := Vector.ofFn fun i => if i.val < 6 then onChan (factoryLoad i) else Chan.fresh (factoryLoad i)
    holds := [⟨0, 10, 0⟩, ⟨1, 10, 0⟩, ⟨2, 10, 0⟩, ⟨3, 10, 0⟩] }

/-- The part at a depth of 1 to 4, given by the tier of that number. -/
def atDepth (d : Fin 4) : State :=
  { steady with tiers :=
      { recs := steady.tiers.recs.set d.val { steady.tiers.recs[d.val] with st := .active, conf := some 300 }
        depth := d.val + 1 } }

/-- A character without noise. -/
def plain (d : Byte) (mark stop : Bool) : CharSamples :=
  ⟨Vector.ofFn fun k => ⟨d[k], d[k], d[k]⟩, ⟨mark, mark, mark⟩, ⟨stop, stop, stop⟩⟩

/-- A character in reception whose stop bit has been reached, with the receiver in a state and a buffer. -/
def listening (rx : RxState) (buffer : List Byte) : State :=
  { State.reset with
    now := 100000
    link := { State.reset.link with rx := rx, buffer := buffer, charFall := some 0 } }

theorem witness_hears : State.reset.Hears ∧ lively.Hears ∧ saving.Hears ∧ tracking.Hears ∧ full.Hears ∧ dozing.Hears :=
  ⟨⟨rfl, by decide, rfl⟩, ⟨rfl, by decide, rfl⟩, ⟨rfl, by decide, rfl⟩, ⟨rfl, by decide, rfl⟩, ⟨rfl, by decide, rfl⟩,
    ⟨rfl, by decide, rfl⟩⟩

/-- StepTakesTheFrontCommand, on both kinds of queue. -/
theorem witness_queue :
    ({ State.reset with pending := [.gap 0] } : State).pending = [.gap 0] ∧ State.reset.pending = [] := ⟨rfl, rfl⟩

/-- The EveryStep statements: a part in the middle of its work meets every law and takes a step. -/
theorem witness_steps : ∃ t, step { lively with pending := [.gap 0] } = .next t := ⟨_, rfl⟩
theorem witness_order : lively.OrderLaw := by unfold State.OrderLaw; decide +kernel
theorem witness_store : lively.StoreLaw ∧ saving.StoreLaw :=
  ⟨⟨by decide +kernel, by decide +kernel⟩, ⟨by decide +kernel, by decide +kernel⟩⟩
theorem witness_records : ∀ k : Fin 5, lively.tiers.recs[k].Law lively.sourcePresent := by
  intro k; constructor <;> revert k <;> decide +kernel
theorem witness_tier : lively.TierLaw := ⟨witness_records, by decide +kernel, by decide +kernel⟩
theorem witness_estimate : lively.EstimateLaw := by constructor <;> decide +kernel
theorem witness_mark : lively.MarkLaw := by unfold State.MarkLaw; decide +kernel
theorem witness_hold : lively.HoldLaw :=
  ⟨by decide +kernel, by decide +kernel, by simp [lively], by decide +kernel, by decide +kernel⟩
theorem witness_force : lively.ForceLaw := by unfold State.ForceLaw; decide +kernel
theorem witness_output : lively.OutputLaw ∧ reset.OutputLaw := by unfold State.OutputLaw; decide +kernel
theorem witness_alert : lively.AlertLaw := by unfold State.AlertLaw; decide +kernel
theorem witness_level : lively.LevelLaw := ⟨by decide +kernel, by decide +kernel⟩
theorem witness_ceiling : lively.CeilingLaw := by constructor <;> decide +kernel
theorem witness_protections : ∀ i : Ch, lively.chans[i].ProtectionLaw := by
  intro i; constructor <;> revert i <;> decide +kernel
theorem witness_protection : lively.ProtectionLaw := witness_protections
theorem witness_marked : lively.MarkedLaw ∧ State.reset.MarkedLaw :=
  ⟨⟨by decide +kernel, by decide +kernel⟩, ⟨by decide +kernel, by decide +kernel⟩⟩

/-- LatchedIsLeftOnlyByItsThreeCauses: CLEAR_TRIP, an unfitting and a reset each leave LATCHED. -/
theorem witness_latched :
    lively.chans[3].cfg.fitted = true ∧ lively.chans[3].prot = .latched ∧
    (after (.clearTrip 0 (rq [0, 0, 8])) lively).chans[3].prot = .normal ∧
    (after (.profileWriteLoads 0 (rq (4 :: LoadSettings.field { factoryLoad 3 with fitted := false }))) lively).chans[3].prot
      = .normal ∧
    (after (.resetEnd 0 0 0) reset).chans[3].prot = .normal := by decide +kernel

/-- TallyFallsOnlyByClearOrColdReset: a counter that COUNTERS_CLEAR clears. -/
theorem witness_tally :
    let s := { State.reset with tally := State.reset.tally.set 0 ⟨factorySelector, Config.totalMax⟩ }
    s.tally[0].value ≤ Config.totalMax ∧ (after (.countersClear 0 (rq [1])) s).tally[0].value < s.tally[0].value := by
  decide +kernel

/-- NothingMovesDuringAReset. -/
theorem witness_reset : reset.inReset.isSome = true ∧ reset.inReset = some ⟨false, false, true, true⟩ := by decide +kernel

/-- InstallerRequestsAreDeniedOrBusy: without INSTALL, and during a save; a change of the limit and one of the start demand. -/
theorem witness_gate :
    State.reset.power.install.deb = false ∧ saving.isSaving = true ∧ saving.power.install.deb = true ∧
    State.reset.isSaving = false ∧
    ({ factoryLoad 0 with limit := 999, startDemand := false } : LoadSettings) ≠ State.reset.chans[0].cfg ∧
    State.reset.chans[0].cfg.clamp = State.reset.chans[0].cfg := by decide +kernel

/-- LoadStatusAnswers: a fitted channel and one that is not. -/
theorem witness_fitted : lively.chans[23].cfg.fitted = true ∧
    ((lively.setChan 23 { lively.chans[23] with cfg := { factoryLoad 23 with fitted := false } }).chans[23]).cfg.fitted
      = false := by decide +kernel

/-- ProfileReadAnswers: the positions 1 and 24 of ORDER; the indices and sections just outside. -/
theorem witness_positions :
    State.reset.seq.order[(1 : Byte).toNat - 1]? = some 0 ∧ State.reset.seq.order[(24 : Byte).toNat - 1]? = some 23 ∧
    State.reset.seq.order.length = 24 ∧ 24 < (25 : Byte).toNat ∧ 9 < (10 : Byte).toNat := by decide +kernel

/-- SwitchOnSetsDemandAndBringsOutputsOn: a channel that nothing holds, outside SETTLE and at depth 0. -/
theorem witness_switch_on :
    steady.Hears ∧ steady.OutputLaw ∧ (be24 0 0 1).testBit 0 = true ∧ steady.chans[0].cfg.fitted = true ∧
    steady.chans[0].prot = .normal ∧ steady.chans[0].force = .none ∧ steady.chans[0].mark = none ∧
    steady.chans[0].restLock = none ∧ steady.seq.st ≠ .settle ∧ steady.tiers.depth = 0 :=
  ⟨⟨rfl, by decide, rfl⟩, by unfold State.OutputLaw; decide +kernel, by decide +kernel⟩

/-- SwitchOffTurnsUnforcedOutputsOff: channel 1 is on and unforced, channel 5 waits for a retry. -/
theorem witness_switch_off :
    lively.chans[0].demand = true ∧ lively.chans[0].out = true ∧ lively.chans[0].force = .none ∧
    lively.chans[4].demand = true ∧ lively.chans[4].prot = .tripWait := by decide +kernel

/-- SwitchOnShedsOnArrival, at the depths 1 and 4, on channel 24 of shed tier 1. -/
theorem witness_arrival : ∀ d : Fin 4, d = 0 ∨ d = 3 →
    (be24 0x80 0 0).testBit 23 = true ∧ (atDepth d).seq.st ≠ .settle ∧ (atDepth d).inReset = none ∧
    (atDepth d).link.rx ≠ .send ∧ (atDepth d).tiers.depth = d.val + 1 ∧
    (atDepth d).tiers.recs[d.val].conf = some 300 ∧ (atDepth d).chans[23].cfg.fitted = true ∧
    (atDepth d).chans[23].cfg.cls = .sheddable ∧ (atDepth d).chans[23].cfg.shedTier ≤ d.val + 1 ∧
    (atDepth d).held 23 = false ∧ (atDepth d).chans[23].demand = false ∧ (atDepth d).chans[23].force = .none ∧
    (atDepth d).chans[23].mark = none ∧ (atDepth d).chans[23].out = false := by decide +kernel

/-- The part at depth 5, with no load that has demand ON. -/
def cutOff : State :=
  { steady with tiers :=
      { recs := steady.tiers.recs.set 4 { steady.tiers.recs[4] with st := .active, conf := some 11400 }, depth := 5 } }

/-- SwitchOnShedsOnArrival at depth 5, on channel 24. -/
theorem witness_arrival_at_the_cutoff :
    cutOff.seq.st ≠ .settle ∧ cutOff.tiers.depth = 5 ∧ cutOff.tiers.recs[4].conf = some 11400 ∧
    cutOff.chans[23].cfg.fitted = true ∧ cutOff.chans[23].cfg.cls ≠ .exempt ∧ cutOff.chans[23].demand = false ∧
    cutOff.chans[23].force = .none ∧ cutOff.chans[23].mark = none ∧ cutOff.chans[23].out = false := by decide +kernel
theorem witness_arrival_laws : cutOff.Hears ∧ cutOff.MarkLaw ∧ cutOff.MarkedLaw :=
  ⟨⟨rfl, by decide, rfl⟩, by unfold State.MarkLaw; decide +kernel, ⟨by decide +kernel, by decide +kernel⟩⟩

/-- HoldPlacesAnEntry: not eligible, held already, no room, and room. -/
theorem witness_hold_cases :
    lively.chans[5].demand = false ∧ lively.held 0 = true ∧ lively.chans[1].demand = true ∧ lively.held 1 = false ∧
    lively.holds.length < 4 ∧ full.chans[4].demand = true ∧ full.held 4 = false ∧ 4 ≤ full.holds.length := by
  decide +kernel

/-- HoldEntriesLeaveByExpiryOrRelease: an entry at its expiry moment, in a part that meets CeilingLaw (`witness_ceiling`). -/
theorem witness_hold_due : ∃ e ∈ lively.holds, e.ch = 0 ∧ e.expiry ≤ lively.now + 0 := by decide +kernel

/-- ForceSetsOneChannel: without INSTALL, in DOZE, and in RUN. -/
theorem witness_force_cases :
    State.reset.power.install.deb = false ∧ installed.power.install.deb = true ∧ installed.power.st = .run ∧
    dozing.power.st = .doze ∧
    ({ dozing with power := { dozing.power with install := ⟨true, true, none⟩ } } : State).power.install.deb = true := by
  decide +kernel

/-- TripsAndUsageAreCleared: the set of all 24 channels. -/
theorem witness_trips : (List.finRange 24).all (fun i => (be24 0xFF 0xFF 0xFF).testBit i.val) = true := by decide +kernel

/-- AckTreatsNamedLatches and MaskReplacesTheMasks: the greatest notice set, and the first number above it. -/
theorem witness_sets : be16 1 255 = 511 ∧ be16 1 255 < 512 ∧ 512 ≤ be16 2 0 := by decide

/-- BatteryWriteRescalesCharge, SequenceCountersAndDozeAreWritten, TierWriteKeepsOrRestartsTheTier and
LoadWriteActsOnItsChannel: INSTALL asserted, no save, and the greatest written values. -/
theorem witness_writes :
    installed.power.install.deb = true ∧ installed.isSaving = false ∧ (65535 : Nat) < 65536 ∧ (255 : Nat) < 256 ∧
    installed.tiers.recs[0].cfg.measure = .reserve ∧ installed.tiers.recs[3].cfg.measure = .voltage := by decide +kernel
theorem witness_writes_laws : installed.TierLaw ∧ installed.OutputLaw ∧ installed.Hears :=
  ⟨⟨by intro k; constructor <;> revert k <;> decide +kernel, by decide +kernel, by decide +kernel⟩,
    by unfold State.OutputLaw; decide +kernel, ⟨rfl, by decide, rfl⟩⟩

/-- LoadWriteActsOnItsChannel: an unfitting, a fitting and a change to EXEMPT are each of them a change. -/
theorem witness_load_writes :
    let gone := installed.setChan 0 { installed.chans[0] with cfg := { factoryLoad 0 with fitted := false } }
    installed.chans[0].cfg.fitted = true ∧ gone.chans[0].cfg.fitted = false ∧ installed.chans[0].cfg.cls ≠ .exempt := by
  decide +kernel

/-- CurveWriteStoresPoints: thirteen points at index 15, of which one is kept. -/
theorem witness_curve :
    let pts := List.replicate 13 (⟨65535, 65535⟩ : CurvePoint)
    1 ≤ pts.length ∧ pts.length ≤ 13 ∧ (∀ p ∈ pts, p.mv < 65536 ∧ p.reserve < 65536) ∧ (pts.take (16 - 15)).length = 1 := by
  decide

/-- SequenceCountersAndDozeAreWritten: a settle time shortened to 1 s, of which more has passed, with no record PENDING. -/
theorem witness_sequence :
    let s := { installed with now := 2 * Config.unitsPerSecond, seq := { installed.seq with st := .settle, settleStart := some 0 } }
    (⟨20, 100, 10⟩ : SequenceSettings) ≠ s.seq.cfg ∧ 0 + 10 * (100 * Config.unitsPerMs) ≤ s.now + 0 ∧
    (∀ k : Fin 5, s.tiers.recs[k].st ≠ .pending) := by decide +kernel

/-- MovePlacesTheChannel, also where nothing was due before the MOVE. -/
theorem witness_move : State.reset.OrderLaw ∧ State.reset.isSaving = false :=
  ⟨by unfold State.OrderLaw; decide +kernel, rfl⟩
theorem witness_move_frame : steady.OutputLaw ∧ (steady.elapse 0).reconsider = steady.elapse 0 :=
  ⟨by unfold State.OutputLaw; decide +kernel, by decide +kernel⟩

/-- SaveGathersAndEnds: the last erase, and a worn store. -/
theorem witness_save :
    let s := fun n => ({ steady with store := { steady.store with eraseCount := n } } : State)
    (s 9999).store.eraseCount < 10000 ∧ 10000 ≤ (s 10000).store.eraseCount ∧
    saving.store.saving = some factoryProfile ∧ saving.inReset = none := by decide +kernel

/-- LoadDefaultsHandsOutTheFactoryProfile and SetChargeSetsCharge: in START and past it. -/
theorem witness_charge : installed.est.st = .start ∧ tracking.est.st ≠ .start ∧ tracking.power.install.deb = true ∧
    tracking.isSaving = false := by decide +kernel

/-- DozeAndRestartAreServed: a save, a force, and neither with every tally in range. -/
theorem witness_doze : saving.isSaving = true ∧ lively.isSaving = false ∧ (∃ i : Ch, lively.chans[i].force ≠ .none) ∧
    (∀ i : Ch, steady.chans[i].force = .none) ∧ (∀ k : Fin 8, steady.tally[k].value ≤ Config.totalMax) := by
  decide +kernel

/-- AStartBitBeginsACharacter: within a character and within the start bit of a false start, to the last moment of each. -/
theorem witness_reading :
    let s := { steady with now := 20159, link := { steady.link with charFall := some 0 } }
    let u := { steady with now := 1079, link := { steady.link with falseEnd := some 1080 } }
    s.now < 0 + 10 * s.power.bitTime + s.power.bitTime / 2 ∧ u.now < 1080 ∧ u.link.falseEnd = some 1080 ∧
    steady.link.falseEnd = none := by decide +kernel

/-- AStartBitBeginsACharacter: in RUN, in DOZE with and without a scan in flight, and with a RESTART's reply. -/
theorem witness_start_bit :
    steady.inReset = none ∧ steady.link.rx ≠ .send ∧ steady.link.charFall = none ∧ steady.power.st = .run ∧
    dozing.link.charFall = none ∧ dozing.scanner.inFlight.isSome = true ∧
    ({ dozing with scanner := { dozing.scanner with inFlight := none } } : State).scanner.inFlight = none ∧
    (after (.restart 0 (rq [])) steady).link.reply.any Reply.thenReset = true ∧
    (after (.restart 0 (rq [])) steady).link.charFall = none := by decide +kernel

/-- CharactersAreTakenByTheReceiverState: the unit's address, another, a data character, and each LEN about its limits. -/
theorem witness_characters :
    (∀ k : Fin 8, majority (plain 0x58 false true).data[k] = (0x58 : Byte)[k]) ∧
    majority (plain 1 true true).mark = true ∧ majority (plain 1 true true).stop = true ∧
    majority (plain 1 true false).stop = false ∧
    (listening .wait []).link.charFall = some 0 ∧ (listening .wait []).inReset = none ∧
    0 + 10 * (listening .wait []).power.bitTime + (listening .wait []).power.bitTime / 2 ≤ (listening .wait []).now ∧
    (1 : Byte).toNat = (listening .wait []).power.adr.toNat + 1 ∧ (2 : Byte).toNat ≠ 0 ∧
    (listening .collect [1]).link.buffer.length = 1 ∧
    2 ≤ (2 : Byte).toNat ∧ (58 : Byte).toNat ≤ 58 ∧ ¬(2 ≤ (1 : Byte).toNat) ∧ ¬((59 : Byte).toNat ≤ 58) ∧
    (listening .collect [1, 2, 1]).link.buffer[1]? = some 2 ∧
    (listening .collect [1, 2, 1]).link.buffer.length + 1 < (2 : Byte).toNat + 4 := by decide +kernel

/-- AFrameOnTheLineIsItsCommand: the last character of a frame to unit 1 that carries IDENT, and the same with a wrong CRC. -/
theorem witness_frame :
    let body : List Byte := [1, 2, 1, 7]
    let crc := u16 (crc16 body).toNat
    let s := listening .collect (body ++ [crc.headD 0])
    s.link.buffer ++ [crc.getLastD 0] = body ++ u16 (crc16 body).toNat ∧ s.link.buffer[1]? = some 2 ∧
    s.link.buffer.length + 1 = (2 : Byte).toNat + 4 ∧
    (s.link.buffer ++ [crc.getLastD 0 + 1]).drop 4 ≠ u16 (crc16 ((s.link.buffer ++ [crc.getLastD 0 + 1]).take 4)).toNat := by
  decide +kernel
theorem witness_frame_hears : (listening .collect [1, 2, 1, 7, 0]).Hears := ⟨rfl, by decide, rfl⟩

/-- AFrameOnTheLineIsItsCommand: KINDs that the table does not list, on both sides of 0x80, and a section that cannot be
written. -/
theorem witness_kinds :
    (0x07 : Byte).toNat ∉ [0x01, 0x02, 0x03, 0x04, 0x05, 0x06, 0x10, 0x11, 0x12, 0x13, 0x14, 0x15, 0x20, 0x21, 0x22, 0x23,
      0x30, 0x31, 0x32, 0x33, 0x34, 0x35, 0x40, 0x41] ∧
    (0x80 : Byte).toNat ∉ [0x01, 0x02, 0x03, 0x04, 0x05, 0x06, 0x10, 0x11, 0x12, 0x13, 0x14, 0x15, 0x20, 0x21, 0x22, 0x23,
      0x30, 0x31, 0x32, 0x33, 0x34, 0x35, 0x40, 0x41] ∧
    (4 : Byte).toNat ∉ [1, 2, 3, 5, 6, 7, 8, 9] := by decide

/-- BroadcastsAreNeverAnswered: a RESTART with and without a payload. -/
theorem witness_broadcast : (after (.restart 0 ⟨true, 7, []⟩) steady).inReset.isSome = true ∧
    (after (.restart 0 ⟨true, 7, [0]⟩) steady).inReset = none := by decide +kernel

/-- BreaksAndGapsEndCollection: each at its moment. -/
theorem witness_break_gap :
    let s := { listening .collect [1] with link := { (listening .collect [1]).link with spaceFall := some 57760, gapEnd := some 100000 } }
    s.inReset = none ∧ 57760 + 22 * s.power.bitTime ≤ s.now ∧ s.link.rx = .collect ∧ s.link.gapEnd = some s.now := by
  decide +kernel

/-- RepliesGoOutWhole: the first start bit, the mark bit and the last stop bit of a reply of 21 characters. -/
theorem witness_line :
    let t := after (.replyStart 43200) (after (.ident 0 (rq [])) steady)
    let at' : Nat → Bool := fun k => State.ltx { t with now := t.now + k * t.power.bitTime + 1919 }
    t.power.bitTime = 1920 ∧ (t.link.sending.map fun x => x.chars.length) = some 21 ∧ at' 0 = false ∧ at' 9 = true ∧
    at' 20 = false ∧ at' 230 = true ∧ steady.ltx = true := by decide +kernel

/-- RepliesGoOutWhole: a reply at its earliest start, and at its end, with and without a reset to follow. -/
theorem witness_reply :
    let s := after (.ident 0 (rq [])) steady
    let r := after (.restart 0 (rq [])) steady
    s.link.rx ≠ .send ∧ (s.link.reply.map Reply.earliest) = some 43200 ∧
    ((after (.replyStart 43200 ) s).link.sending.map fun x => (x.thenReset, x.done)) = some (false, 486720) ∧
    ((after (.replyStart 43200 ) r).link.sending.map fun x => (x.thenReset, x.done)) = some (true, 191040) ∧
    (after (.replyStart 43200 ) s).link.rx = .send := by decide +kernel

/-- ForcesLapseAtLinkQuiet: at 5 s, with a force and with none. -/
theorem witness_quiet :
    lively.link.quietHanded = false ∧ lively.link.quietStart + 5 * Config.unitsPerSecond ≤ lively.now + (92160000 - 1000) ∧
    (∃ i : Ch, lively.chans[i].force ≠ .none) ∧ (∀ i : Ch, steady.chans[i].force = .none) := by decide +kernel

/-- AScanBeginsWithItsPlan: the timer at its expiry with no scan in flight. -/
theorem witness_scan_begin :
    let s := { steady with scanner := { steady.scanner with inFlight := none } }
    s.inReset = none ∧ s.scanner.inFlight = none ∧ s.scanner.timer = some (100 * Config.unitsPerMs) := by decide +kernel

/-- AScanCompletesWithItsRecord and AScanFormsTheEstimate: a full plan at its end, in START and past it. -/
theorem witness_scan_end :
    State.reset.scanner.inFlight = some ⟨.run, Vector.replicate 24 true, 0⟩ ∧
    0 + (2 + channels.countP fun i => (Vector.replicate 24 true)[i]) * Config.slotUnits = 26 * 4608 ∧
    Scan.ends ⟨.run, Vector.replicate 24 true, 0⟩ = 26 * 4608 ∧ State.reset.est.st = .start ∧
    tracking.est.window.length ≤ 8 ∧ (32766 : Nat) < 32767 := by decide +kernel

/-- AScanFormsTheEstimate and ARecordMovesByTheEvaluationTable: the record of a sound scan with a HELD voltage, of one with the
sense fault, and of one with a LOST voltage in START; and the reserve that R34 gives at 13,045 mV. -/
theorem witness_scan_classes :
    let scan := fun (n : Nat) (last : Option Nat) => (after
      (.scanComplete (26 * Config.slotUnits) ⟨32767, 12, Vector.replicate 24 0⟩ ⟨false, false, false⟩)
      { tracking with scanner := { tracking.scanner with vRun := n, lastV := last } }).scanner.record
    (scan 3 (some 13043)).map (fun r => (r.senseFault, r.vStanding, r.iStanding)) = some (false, .held, .valid) ∧
    (scan 4 (some 13043)).map ScanRecord.senseFault = some true ∧
    (scan 0 none).map (fun r => (r.senseFault, r.vStanding)) = some (false, .lost) ∧
    factoryCurve[6].mv ≤ 13045 ∧ 13045 < factoryCurve[7].mv ∧
    450 = factoryCurve[6].reserve + (13045 - factoryCurve[6].mv) * (factoryCurve[7].reserve - factoryCurve[6].reserve)
      / (factoryCurve[7].mv - factoryCurve[6].mv) := by decide +kernel

/-- AScanCompletesWithItsRecord and ARecordMovesByTheEvaluationTable: in DOZE, a scan that calls for the cutoff ends DOZE. -/
theorem witness_cutoff_ends_doze :
    let s := { dozing with est := { dozing.est with st := .tracking } }
    let t := after (.scanComplete (2 * Config.slotUnits) ⟨11000, 0, Vector.replicate 24 0⟩ ⟨false, false, false⟩) s
    s.power.st = .doze ∧ t.tiers.recs[4].st = .active ∧ t.power.st = .run ∧ t.notices.latch[2] = true := by decide +kernel

/-- OvercurrentTripsAChannel: channel 1 of the factory profile with 10.01 A in its third scan, with retries left and with
none left. -/
theorem witness_trip :
    let c := fun n => { onChan (factoryLoad 0) with onBefore := true, overCount := 2, retries := n }
    let s := fun n => steady.setChan 0 (c n)
    let smp : Samples := ⟨12000, 0, Vector.replicate 24 1001⟩
    (s 0).inReset = none ∧ (s 0).scanner.inFlight = some ⟨.run, Vector.replicate 24 true, 0⟩ ∧
    (s 0).chans[0].prot = .normal ∧ (s 0).chans[0].out = true ∧ (s 0).chans[0].onBefore = true ∧
    (s 0).chans[0].blankEnd = none ∧ ((s 0).chans[0].cfg.limit : Int) < min (4095 : Int) smp.cs[0] ∧
    (s 0).chans[0].cfg.tripCount ≤ (s 0).chans[0].overCount + 1 ∧
    (s 1).chans[0].retries < (s 1).chans[0].cfg.retryCount ∧ (s 2).chans[0].cfg.retryCount ≤ (s 2).chans[0].retries := by
  decide +kernel
theorem witness_trip_law :
    (steady.setChan 0 { onChan (factoryLoad 0) with onBefore := true, overCount := 2, retries := 2 }).LevelLaw :=
  ⟨by decide +kernel, by decide +kernel⟩

/-- InputsAreDebounced: a debounce timer at its end, of SHORE in DOZE with tiers 1 and 2 to suppress, and of INSTALL to
de-asserted. -/
theorem witness_debounce :
    let s := { dozing with power := { dozing.power with shore := ⟨true, false, some 5⟩ } }
    let u := { lively with power := { lively.power with install := ⟨false, true, some 5⟩ } }
    (s.power.pin .shore).timer = some 5 ∧ s.inReset = none ∧ s.tiers.recs[0].cfg.suppress = true ∧
    s.tiers.recs[0].cfg.measure ≠ .off ∧ (u.power.pin .install).timer = some 5 ∧ (u.power.pin .install).raw = false := by
  decide +kernel

/-- RetryGoodRunAndBlankingEnd: a retry expiry that brings the output on, a good run and a blanking at their ends. -/
theorem witness_retry :
    let s := steady.setChan 0
      { onChan (factoryLoad 0) with out := false, prot := .tripWait, retryEnd := some 5, goodRun := none }
    let e := 60 * Config.unitsPerSecond
    let u := steady.setChan 0 { onChan (factoryLoad 0) with goodRun := some (e - 60 * Config.unitsPerSecond), blankEnd := some e }
    s.chans[0].prot = .tripWait ∧ s.chans[0].retryEnd = some 5 ∧ s.chans[0].demand = true ∧ s.chans[0].mark = none ∧
    s.chans[0].restLock = none ∧ s.seq.st ≠ .settle ∧ s.tiers.depth = 0 ∧
    (∀ i : Ch, s.chans[i].out = (s.inReset.isNone && s.chans[i].law)) ∧
    u.chans[0].goodRun = some 0 ∧ u.chans[0].blankEnd = some e := by decide +kernel

/-- LocksSpacingsAndSettleTimeEnd: the locks at their ends, at depth 0. -/
theorem witness_locks :
    let s := steady.setChan 0 { onChan (factoryLoad 0) with runLock := some 5 }
    let u := steady.setChan 0 { onChan (factoryLoad 0) with out := false, goodRun := none, restLock := some 5 }
    s.chans[0].runLock = some 5 ∧ s.seq.st ≠ .settle ∧ s.tiers.depth = 0 ∧ (∀ j : Ch, s.chans[j].mark = none) ∧
    (∀ i : Ch, s.chans[i].out = (s.inReset.isNone && s.chans[i].law)) ∧
    u.chans[0].restLock = some 5 ∧ u.chans[0].mark = none ∧ u.chans[0].demand = true ∧
    (∀ i : Ch, u.chans[i].out = (u.inReset.isNone && u.chans[i].law)) ∧ 1 ≤ s.seq.cfg.shedSpacing ∧
    1 ≤ s.seq.cfg.restoreSpacing := by decide +kernel

/-- LocksSpacingsAndSettleTimeEnd: a shed step of channel 24, the lowest candidate, at depth 1 and at depth 4. -/
theorem witness_shed_step : ∀ d : Fin 4, d = 0 ∨ d = 3 →
    let t := (atDepth d).setChan 23 (onChan (factoryLoad 23))
    let s := { t with seq := { t.seq with lastStep := some 0 } }
    s.shedCandidate 23 = true ∧ s.chans[23].runLock = none ∧ s.seq.st ≠ .settle ∧ 1 ≤ s.tiers.depth ∧ s.tiers.depth ≤ 4 ∧
    (∀ i : Ch, s.chans[i].out = (s.inReset.isNone && s.chans[i].law)) ∧
    (∀ j : Ch, s.seq.order.idxOf 23 < s.seq.order.idxOf j → s.shedCandidate j = false) := by decide +kernel

/-- LocksSpacingsAndSettleTimeEnd: a restore step of channel 1, and the end of SETTLE with and without a PENDING record. -/
theorem witness_restore_step :
    let t := steady.setChan 0 { onChan (factoryLoad 0) with out := false, goodRun := none, mark := some ⟨.reset, 0⟩ }
    let s := { t with seq := { t.seq with lastStep := some 0 } }
    let u := { State.reset with seq := { State.reset.seq with settleStart := some 0 } }
    s.restoreCandidate 0 = true ∧ s.chans[0].restLock = none ∧ (∀ j : Ch, s.shedCandidate j = false) ∧
    (∀ k : Fin 5, s.tiers.recs[k].st ≠ .pending) ∧ s.scanner.senseFault = false ∧ s.tiers.depth ≤ 4 ∧
    (∀ i : Ch, s.chans[i].out = (s.inReset.isNone && s.chans[i].law)) ∧ u.seq.st = .settle ∧
    (after (.settleTimeEnd (3 * Config.unitsPerSecond)) u).seq.st = .steady ∧ lively.tiers.recs[2].st = .pending := by
  decide +kernel

/-- ARecordMovesByTheEvaluationTable: each state with x at the falling level, between the levels and above the rising one, and
the least and the greatest counts. -/
theorem witness_records_move :
    let c : TierSettings := ⟨.voltage, 11800, 12300, 255, 1, false⟩
    c.falling < c.rising ∧ c.release = 1 ∧ 1 < c.confirm ∧ c.confirm ≤ 254 + 1 ∧ 253 + 1 < c.confirm := by decide

/-- TheEndOfAResetTakesUpWork: a warm reset of a part whose store is erased; and a store whose image was saved loads it. -/
theorem witness_reset_end : reset.inReset = some ⟨false, false, true, true⟩ ∧ reset.store.image = none := by decide +kernel
/-- TheEndOfAResetTakesUpWork: an image that passes, one whose CRC does not match and one of another format; and a part whose
capacity of 200 Ah a warm reset rescales. -/
theorem witness_images (p : Profile) :
    (∃ im : Image, im.format = 1 ∧ im.crc = crc16 (u8 im.format ++ im.sections.field)) ∧
    (∃ im : Image, im.crc ≠ crc16 (u8 im.format ++ im.sections.field)) ∧ (∃ im : Image, im.format ≠ 1) := by
  refine ⟨⟨⟨1, p, crc16 (u8 1 ++ p.field)⟩, rfl, ?_⟩, ⟨⟨1, p, crc16 (u8 1 ++ p.field) + 1⟩, ?_⟩,
    ⟨⟨2, p, 0⟩, (by decide : (2 : Nat) ≠ 1)⟩⟩
  · dsimp only
  · dsimp only; generalize crc16 (u8 1 ++ p.field) = c; simp
theorem witness_rescale :
    (after (.resetEnd 0 0 0) { reset with est := { reset.est with q := 7200, battery := { factoryBattery with capacity := 200 } } }).est.q
      = 3600 := by decide +kernel
theorem witness_reset_ceiling : reset.CeilingLaw := by constructor <;> decide +kernel
theorem witness_image_loads (st : Store) (p : Profile) :
    Store.loadable { st with image := some ⟨1, p, imageCrc 1 p⟩ } = some p := by
  simp [Store.loadable, Config.imageFormat]

end Sys2Proof.Tests
end

section
/-! PROOFS. The reset state and the beginning of a scan. -/

namespace Sys2Proof.Machine

theorem State.planNow_eq (s : State) : s.planNow =
    Vector.ofFn fun i : Ch => s.chans[i].cfg.fitted && (decide (s.power.st = .run) || s.chans[i].out) := rfl

/-- The period of a power state in milliseconds (R3, R4). -/
theorem PowerState.periodMs_eq (p : PowerState) : p.periodMs = if p = .run then 100 else 1000 := by cases p <;> rfl

/-- Settles O52: the guard of SCAN_BEGIN holds, so that it is `State.beginScan` with the time passed. -/
theorem aScanBeginsWithItsPlan : Obligations.AScanBeginsWithItsPlan := by
  intro dt e s hr hf ht hd
  have due : (s.elapse dt).scanner.inFlight.isNone ∧ reached (s.elapse dt).now (s.elapse dt).scanner.timer := by
    simp [hf, ht, reached, hd]
  have begins : exec (.scanBegin dt) s = .next (s.elapse dt).beginScan := by
    rw [exec, execScanBegin, State.event_eq _ _ _ hr, if_pos due]
  rw [begins, State.beginScan, State.planNow_eq, PowerState.periodMs_eq]
  rfl

/-- Every record of the reset state is CLEAR with its factory settings (R44, R64). -/
theorem State.reset_tiers (k : Fin 5) : State.reset.tiers.recs[k] = ⟨factoryTiers[k], .clear, 0, none⟩ := by
  simp [State.reset, factoryProfile]

/-- Every channel of the reset state is fresh with its factory settings (R65, R91). -/
theorem State.reset_chans (i : Ch) : State.reset.chans[i] = Chan.fresh (factoryLoad i) := by
  simp [State.reset, factoryProfile]

/-- Every tally counter of the reset state stands at 0 with the factory selector (R168). -/
theorem State.reset_tally (k : Fin 8) : State.reset.tally[k] = ⟨factorySelector, 0⟩ := by
  simp [State.reset, factoryProfile]

/-- The factory shed tier falls by one for each six channels (R65). -/
theorem factoryLoad_shedTier (i : Ch) : (factoryLoad i).shedTier =
    if i.val < 6 then 4 else if i.val < 12 then 3 else if i.val < 18 then 2 else 1 := by
  simp only [factoryLoad]; split_ifs <;> omega

/-- Settles O2: each block of `State.reset` holds its values by definition; the records, the channels and the counters hold
them index by index. -/
theorem resetStateHoldsTheAfterResetValues : Obligations.ResetStateHoldsTheAfterResetValues := by
  unfold Obligations.ResetStateHoldsTheAfterResetValues
  refine ⟨⟨rfl, rfl, rfl, rfl⟩, ⟨rfl, rfl, rfl, rfl, rfl, rfl, rfl, rfl, rfl⟩,
    ⟨rfl, rfl, rfl, rfl, rfl, rfl, rfl, rfl, rfl, rfl, rfl, rfl, rfl⟩, ⟨fun k => ?_, rfl⟩,
    ⟨rfl, rfl, rfl, rfl, rfl⟩, rfl, fun i => ?_, fun i => ?_,
    ⟨rfl, rfl, rfl, rfl, rfl, rfl⟩, ⟨rfl, rfl, rfl, rfl, rfl, rfl, rfl⟩,
    ⟨rfl, rfl, rfl, rfl⟩, fun k => ?_, ⟨rfl, rfl, rfl, rfl, rfl⟩⟩
  · rw [State.reset_tiers]; exact ⟨rfl, rfl, rfl⟩
  · rw [State.reset_chans, ← factoryLoad_shedTier]; rfl
  · rw [State.reset_chans]; simp [Chan.fresh]
  · rw [State.reset_tally]; exact ⟨rfl, rfl⟩

end Sys2Proof.Machine
end

section
/-! PROOFS. What the blocks that take a scan record leave alone. -/

namespace Sys2Proof.Machine

/-! ### What the blocks that take a record leave alone (R14) -/

@[simp] theorem Estimator.sample_battery (e : Estimator) (r : ScanRecord) : (e.sample r).battery = e.battery := by
  cases e; rfl
@[simp] theorem Estimator.charge_battery (e : Estimator) (r : ScanRecord) : (e.charge r).battery = e.battery := by
  cases e; rfl
@[simp] theorem Estimator.reform_battery (e : Estimator) : e.reform.battery = e.battery := by
  cases e; rfl
@[simp] theorem Estimator.seed_battery (e : Estimator) : e.seed.battery = e.battery := by
  cases e; simp only [Estimator.seed]; split <;> rfl
@[simp] theorem Estimator.rest_battery (e : Estimator) (p : Nat) : (e.rest p).1.battery = e.battery := by
  cases e; simp only [Estimator.rest]; split_ifs <;> rfl
@[simp] theorem Estimator.fill_battery (e : Estimator) (p : Nat) : (e.fill p).1.battery = e.battery := by
  cases e; simp only [Estimator.fill]; split_ifs <;> rfl

@[simp] theorem Estimator.take_battery (e : Estimator) (r : ScanRecord) (first : Bool) :
    (e.take r first).est.battery = e.battery := by
  cases first <;> simp [Estimator.take]

/-- No record changes the battery settings (R35). -/
theorem Estimator.complete_battery (e : Estimator) (r : ScanRecord) : (e.complete r).est.battery = e.battery := by
  simp only [Estimator.complete]; split <;> simp [Estimator.ignore]

theorem Chan.use_force (n k : Nat) (c : Chan) : (c.use n k).force = c.force := by
  simp only [Chan.use]; split <;> rfl

theorem Chan.trip_force (now n : Nat) (c : Chan) : (c.trip now n).force = c.force := by
  simp only [Chan.trip]; split <;> simp only [Chan.turnOff]

theorem Chan.protect_force (now n : Nat) (c : Chan) : (c.protect now n).chan.force = c.force := by
  simp only [Chan.protect]; split
  · exact c.trip_force now n
  · rfl

theorem Chan.checkOpen_force (now n : Nat) (c : Chan) : (c.checkOpen now n).1.force = c.force := by
  simp only [Chan.checkOpen]; split_ifs <;> rfl

/-- No scan completion changes a force (R128). -/
theorem Chan.treat_force (now n k : Nat) (c : Chan) : (c.treat now n k).chan.force = c.force := by
  simp only [Chan.treat, Chan.checkOpen_force, Chan.protect_force, Chan.use_force]

/-- What the Sequencer, the Estimator with the Tier Monitor, and the Channel Controller leave alone when they take a record:
the clock, the scanner, Power Control, the link, the store, the battery settings and the forces. -/
structure State.TakesRecord (s t : State) : Prop where
  now : t.now = s.now
  scanner : t.scanner = s.scanner
  power : t.power = s.power
  link : t.link = s.link
  store : t.store = s.store
  battery : t.est.battery = s.est.battery
  force : ∀ i : Ch, t.chans[i].force = s.chans[i].force

namespace State.TakesRecord

theorem refl (s : State) : s.TakesRecord s := ⟨rfl, rfl, rfl, rfl, rfl, rfl, fun _ => rfl⟩

theorem trans {s t u : State} (h : s.TakesRecord t) (k : t.TakesRecord u) : s.TakesRecord u :=
  ⟨k.now.trans h.now, k.scanner.trans h.scanner, k.power.trans h.power, k.link.trans h.link, k.store.trans h.store,
    k.battery.trans h.battery, fun i => (k.force i).trans (h.force i)⟩

theorem moves {s t u : State} (h : s.TakesRecord t) (k : t.Moves u) : s.TakesRecord u :=
  h.trans ⟨k.now, k.scanner, k.power, k.link, k.store, by rw [k.est], fun i => (k.chans i).force⟩

theorem report {s t : State} (h : s.TakesRecord t) (k : EventKind) (l : List Nat) : s.TakesRecord (t.report k l) :=
  h.moves (t.report_moves k l)

theorem resolveIf {s t : State} (h : s.TakesRecord t) (p : Prop) [Decidable p] :
    s.TakesRecord (if p then t.resolve else t) := by
  split
  · exact h.moves t.resolve_moves
  · exact h

end State.TakesRecord

theorem State.onFault_takesRecord (s : State) (b : Bool) : s.TakesRecord (s.onFault b) :=
  (State.TakesRecord.refl s).resolveIf _

theorem State.evaluateTiers_takesRecord (s : State) (r : ScanRecord) : s.TakesRecord (s.evaluateTiers r).1 := by
  simp only [State.evaluateTiers, State.reportIf]
  refine .report (.report ?_ _ _) _ _
  exact ⟨rfl, rfl, rfl, rfl, rfl, rfl, fun _ => rfl⟩

theorem State.estimated_takesRecord (s : State) (r : ScanRecord) : s.TakesRecord (s.estimated r).1 := by
  have formed (q : Sequencer) : s.TakesRecord { s with est := (s.est.complete r).est, seq := q } :=
    ⟨rfl, rfl, rfl, rfl, rfl, s.est.complete_battery r, fun _ => rfl⟩
  simp only [State.estimated, State.reportIf]; split
  · refine .resolveIf (.trans ?_ (State.evaluateTiers_takesRecord _ r)) _
    exact .report (.report (formed _) _ _) _ _
  · exact .report (.report (formed _) _ _) _ _

theorem State.controlled_takesRecord (s : State) (r : ScanRecord) : s.TakesRecord (s.controlled r).1 := by
  simp only [State.controlled]
  refine .resolveIf (.report (.report (.report ?_ _ _) _ _) _ _) _
  exact ⟨rfl, rfl, rfl, rfl, rfl, rfl, fun i => by simp [Chan.treat_force]⟩

end Sys2Proof.Machine
end

section
/-! PROOFS. The readings that a completion forms, and how a completion ends. -/

namespace Sys2Proof.Machine

/-! ### The readings of a completion (R7 to R14) -/

/-- What a scan leaves for later: the scanner but for the scan in flight and the scan timer. -/
def Scanner.readings (sc : Scanner) : Scanner := { sc with inFlight := none, timer := none }

/-- The sample of the battery voltage is valid (R7). -/
def voltageValid (smp : Samples) : Bool := decide (readVoltage smp.vbs ≠ 32767)

/-- The sample of the battery current is valid (R8). -/
def currentValid (smp : Samples) : Bool :=
  decide (readCurrent smp.shunt ≠ -32768) && decide (readCurrent smp.shunt ≠ 32767)

theorem readVoltage_cast (z : Int) :
    (readVoltage z : Int) = if z < 0 then ((Config.vbsBelowZero z).toNat : Int) else min 32767 z := by
  unfold readVoltage; split
  · rfl
  · simp only [clampToNat, clampInt]; omega

theorem readCurrent_eq (z : Int) : readCurrent z = min 32767 (max (-32768) z) := by
  simp only [readCurrent, clampInt]; omega

theorem readChannel_cast (z : Int) : (readChannel z : Int) = min 4095 (max 0 z) := by
  simp only [readChannel, clampToNat, clampInt]; omega

theorem voltageValid_eq (smp : Samples) : voltageValid smp = decide ((readVoltage smp.vbs : Int) ≠ 32767) := by
  simp only [voltageValid]; congr 1; simp; omega

theorem currentValid_eq (smp : Samples) :
    currentValid smp = decide (readCurrent smp.shunt ≠ 32767 ∧ readCurrent smp.shunt ≠ -32768) := by
  simp [currentValid, Bool.and_comm]

/-- The record's number, its power state and its counts, and the sense fault (R10, R12, R13, R14). -/
theorem Scanner.complete_counts (sc : Scanner) (f : Scan) (smp : Samples) :
    (sc.complete f smp).1.record = some (sc.complete f smp).2 ∧
    (sc.complete f smp).2.number = (if sc.number = 65535 then 1 else sc.number + 1) ∧
    (sc.complete f smp).1.number = (sc.complete f smp).2.number ∧
    (sc.complete f smp).2.power = f.power ∧
    (sc.complete f smp).1.vRun = (if voltageValid smp then 0 else min 255 (sc.vRun + 1)) ∧
    (sc.complete f smp).1.iRun = (if currentValid smp then 0 else min 255 (sc.iRun + 1)) ∧
    (sc.complete f smp).1.senseFault = (sc.complete f smp).2.senseFault ∧
    (sc.complete f smp).2.senseFault = if sc.senseFault then !(voltageValid smp && currentValid smp)
      else decide ((sc.complete f smp).1.vRun = 5 ∨ (sc.complete f smp).1.iRun = 5) := by
  refine ⟨rfl, rfl, rfl, rfl, rfl, rfl, rfl, ?_⟩
  rw [Bool.decide_or]; rfl

theorem Scanner.complete_voltage_valid (sc : Scanner) (f : Scan) (smp : Samples) (h : voltageValid smp = true) :
    (sc.complete f smp).2.voltage = readVoltage smp.vbs ∧ (sc.complete f smp).2.vStanding = .valid ∧
    (sc.complete f smp).1.lastV = some (sc.complete f smp).2.voltage := by
  simp only [voltageValid] at h
  simp [Scanner.complete, h, standing]

theorem Scanner.complete_voltage_invalid (sc : Scanner) (f : Scan) (smp : Samples) (h : voltageValid smp = false) :
    (sc.complete f smp).2.voltage = sc.lastV.getD 0 ∧ (sc.complete f smp).1.lastV = sc.lastV ∧
    (sc.complete f smp).2.vStanding =
      if sc.lastV.isSome && decide ((sc.complete f smp).1.vRun ≤ 4) then .held else .lost := by
  simp only [voltageValid] at h
  simp [Scanner.complete, h, standing]

theorem Scanner.complete_current_valid (sc : Scanner) (f : Scan) (smp : Samples) (h : currentValid smp = true) :
    (sc.complete f smp).2.current = readCurrent smp.shunt ∧ (sc.complete f smp).2.iStanding = .valid ∧
    (sc.complete f smp).1.lastI = some (readCurrent smp.shunt) := by
  simp only [currentValid] at h
  simp only [Scanner.complete, h, standing, if_true, Option.getD_some, and_self]

theorem Scanner.complete_current_invalid (sc : Scanner) (f : Scan) (smp : Samples) (h : currentValid smp = false) :
    (sc.complete f smp).2.current = sc.lastI.getD 0 ∧ (sc.complete f smp).1.lastI = sc.lastI ∧
    (sc.complete f smp).2.iStanding =
      if sc.lastI.isSome && decide ((sc.complete f smp).1.iRun ≤ 4) then .held else .lost := by
  simp only [currentValid] at h
  simp only [Scanner.complete, h, standing, Bool.false_eq_true, if_false, and_self]

theorem Scanner.complete_currents (sc : Scanner) (f : Scan) (smp : Samples) (i : Ch) :
    (sc.complete f smp).2.currents[i] = if f.plan[i] then readChannel smp.cs[i] else 0 := by
  simp [Scanner.complete]

/-! ### How a completion ends (R6, R140, R141) -/

/-- The auto-doze test is due exactly when all the conditions of R140 hold. -/
theorem State.autoDozeDue_iff (s : State) : s.autoDozeDue = true ↔
    s.power.st = .run ∧ s.power.cfg.auto = true ∧
    s.power.cfg.delay * 60 * Config.unitsPerSecond ≤ s.now - s.link.quietStart ∧
    s.est.averaged.natAbs ≤ s.est.battery.restCurrent ∧
    (∀ k : Fin 5, s.tiers.recs[k].st ≠ .pending ∧ s.tiers.recs[k].st ≠ .releasing) ∧
    (∀ i : Ch, s.chans[i].force = .none) ∧ s.isSaving = false ∧ s.link.rx ≠ .collect ∧
    s.power.lastExit + 60 * Config.unitsPerSecond ≤ s.now := by
  have pending : s.tiers.anyPending = false ↔ ∀ k : Fin 5, s.tiers.recs[k].st ≠ .pending := by
    simp [TierMonitor.anyPending, Vector.any_eq_false, Fin.forall_iff]
  have releasing : s.tiers.anyReleasing = false ↔ ∀ k : Fin 5, s.tiers.recs[k].st ≠ .releasing := by
    simp [TierMonitor.anyReleasing, Vector.any_eq_false, Fin.forall_iff]
  simp only [State.autoDozeDue, Bool.and_eq_true, Bool.not_eq_true', decide_eq_true_eq, pending, releasing,
    State.anyForce_eq_false, Estimator.atRest, forall_and, and_assoc]
  rfl

@[simp] theorem State.dozeTest_scanner (s : State) : s.dozeTest.scanner = s.scanner := by
  unfold State.dozeTest; split <;> simp only [State.enterDoze_scanner]
@[simp] theorem State.dozeTest_est (s : State) : s.dozeTest.est = s.est := by
  unfold State.dozeTest; split <;> simp only [State.enterDoze_est]
@[simp] theorem State.dozeTest_tiers (s : State) : s.dozeTest.tiers = s.tiers := by
  unfold State.dozeTest; split <;> simp only [State.enterDoze_tiers]

theorem State.enterDoze_power (s : State) : s.enterDoze.power = { s.power with st := .doze } := by
  simp only [State.enterDoze, State.reportIf_power]

/-- In RUN the test changes the power state alone of Power Control, and enters DOZE exactly when it is due (R140). -/
theorem State.dozeTest_power (s : State) (h : s.power.st = .run) :
    s.dozeTest.power = { s.power with st := s.dozeTest.power.st } ∧
    (s.dozeTest.power.st = .doze ↔ s.autoDozeDue = true) := by
  unfold State.dozeTest; split
  · rename_i due; rw [State.enterDoze_power]; exact ⟨rfl, by simp [due]⟩
  · rename_i due; exact ⟨rfl, by simp [due, h]⟩

theorem State.beginScan_readings (s : State) : s.beginScan.scanner.readings = s.scanner.readings := by
  simp only [State.beginScan, Scanner.readings]

theorem State.exitDoze_readings (s : State) : s.exitDoze.scanner.readings = s.scanner.readings := by
  simp only [State.exitDoze]; split_ifs
  · rw [State.beginScan_readings]; rfl
  · rfl
  · rfl

/-- The end of a completion, once every block has taken the record: a cause of exit that was told ends DOZE, then comes an
auto-doze test that is made last, and a scan that an exit put off begins (R6, R140, R141). -/
def State.concluded (s : State) (told testFirst : Bool) : State :=
  let t := if told then s.exitDoze else s
  let u := if testFirst then t else t.dozeTest
  if u.scanner.timer.isNone && u.scanner.inFlight.isNone then u.beginScan else u

/-- The blocks take the record in one order or another, and then the completion ends. -/
theorem State.consume_cases (s : State) (rcd : ScanRecord) (changed : Bool) (ord : CompletionOrder) :
    ∃ told t, (if ord.testFirst then s.dozeTest else s).TakesRecord t ∧
      s.consume rcd changed ord = t.concluded told ord.testFirst := by
  obtain ⟨faultFirst, controllerFirst, testFirst⟩ := ord
  generalize hs : (if testFirst then s.dozeTest else s) = s1
  simp only [State.consume, hs]
  cases faultFirst <;> cases controllerFirst <;> simp only [if_true, if_false, Bool.false_eq_true]
  · exact ⟨_, _, ((s1.estimated_takesRecord rcd).trans (State.controlled_takesRecord _ rcd)).trans
      (State.onFault_takesRecord _ changed), rfl⟩
  · exact ⟨_, _, ((s1.controlled_takesRecord rcd).trans (State.estimated_takesRecord _ rcd)).trans
      (State.onFault_takesRecord _ changed), rfl⟩
  · exact ⟨_, _, ((s1.onFault_takesRecord changed).trans (State.estimated_takesRecord _ rcd)).trans
      (State.controlled_takesRecord _ rcd), rfl⟩
  · exact ⟨_, _, ((s1.onFault_takesRecord changed).trans (State.controlled_takesRecord _ rcd)).trans
      (State.estimated_takesRecord _ rcd), rfl⟩

theorem State.concluded_readings (s : State) (told testFirst : Bool) :
    (s.concluded told testFirst).scanner.readings = s.scanner.readings := by
  have exited : (if told then s.exitDoze else s).scanner.readings = s.scanner.readings := by
    split
    · exact s.exitDoze_readings
    · rfl
  simp only [State.concluded]
  rw [← exited]
  generalize (if told then s.exitDoze else s) = t
  split_ifs <;> simp only [State.beginScan_readings, State.dozeTest_scanner]

/-- What a completion leaves of the readings is what the scanner's own part formed (R14). -/
theorem State.consume_readings (s : State) (rcd : ScanRecord) (changed : Bool) (ord : CompletionOrder) :
    (s.consume rcd changed ord).scanner.readings = s.scanner.readings := by
  obtain ⟨told, t, taken, e⟩ := s.consume_cases rcd changed ord
  rw [e, State.concluded_readings, taken.scanner]
  split
  · rw [State.dozeTest_scanner]
  · rfl

/-- In RUN a test made last decides the power state, and nothing of the completion undoes it (R140, R141). -/
theorem State.concluded_run (s : State) (told : Bool) (h : s.power.st = .run) :
    (s.concluded told false).power = s.dozeTest.power ∧ (s.concluded told false).est = s.est ∧
    (s.concluded told false).tiers = s.tiers := by
  have stays : (if told then s.exitDoze else s) = s := by
    rw [State.exitDoze_run s (by rw [h]; decide), ite_self]
  simp only [State.concluded, stays, Bool.false_eq_true, if_false]
  split <;> simp

end Sys2Proof.Machine
end

section
/-! PROOFS. The completion of a scan. -/

namespace Sys2Proof.Machine

/-- The moment a scan completes, by the channels of its plan (R1). -/
theorem Scan.ends_eq (f : Scan) : f.ends = f.start + (2 + channels.countP fun i => f.plan[i]) * Config.slotUnits := by
  rw [Scan.ends, Scan.quantities, List.countP_eq_length_filter]

/-- SCAN_COMPLETE at or after the end of the last slot completes the scan in flight (R1, R14). -/
theorem exec_scanComplete (dt : Nat) (smp : Samples) (ord : CompletionOrder) (s : State) (f : Scan)
    (hr : s.inReset = none) (hf : s.scanner.inFlight = some f) (hd : f.ends ≤ s.now + dt) :
    exec (.scanComplete dt smp ord) s = .next ((s.elapse dt).completeScan f smp ord) := by
  simp only [exec, execScanComplete, State.event_eq _ _ _ hr, State.elapse_scanner, hf]
  exact congrArg _ (if_pos hd)

/-- After a completion the scanner holds the readings that its own part formed (R14). -/
theorem State.completeScan_readings (s : State) (f : Scan) (smp : Samples) (ord : CompletionOrder) :
    (s.completeScan f smp ord).scanner.readings = (s.scanner.complete f smp).1.readings := by
  rw [State.completeScan, State.consume_readings]
  simp only [State.scanned, State.reportIf_scanner]

/-- In RUN, with the auto-doze test made last, a completion changes the power state alone of Power Control, and the part is in
DOZE after it exactly when the conditions of R140 hold. -/
theorem State.completeScan_power (s : State) (f : Scan) (smp : Samples) (ord : CompletionOrder)
    (ht : ord.testFirst = false) (h : s.power.st = .run) :
    (s.completeScan f smp ord).power = { s.power with st := (s.completeScan f smp ord).power.st } ∧
    ((s.completeScan f smp ord).power.st = .doze ↔ s.power.cfg.auto = true ∧
      s.power.cfg.delay * 60 * Config.unitsPerSecond ≤ s.now - s.link.quietStart ∧
      (s.completeScan f smp ord).est.averaged.natAbs ≤ s.est.battery.restCurrent ∧
      (∀ k : Fin 5, (s.completeScan f smp ord).tiers.recs[k].st ≠ .pending ∧
        (s.completeScan f smp ord).tiers.recs[k].st ≠ .releasing) ∧
      (∀ i : Ch, s.chans[i].force = .none) ∧ s.isSaving = false ∧ s.link.rx ≠ .collect ∧
      s.power.lastExit + 60 * Config.unitsPerSecond ≤ s.now) := by
  obtain ⟨told, t, taken, e⟩ := (s.scanned f smp).consume_cases (s.scanner.complete f smp).2
    (s.scanner.senseFault != (s.scanner.complete f smp).2.senseFault) ord
  rw [ht, if_neg Bool.false_ne_true] at taken
  have now : t.now = s.now := by rw [taken.now]; simp only [State.scanned, State.reportIf_now]
  have power : t.power = s.power := by rw [taken.power]; simp only [State.scanned, State.reportIf_power]
  have link : t.link = s.link := by rw [taken.link]; simp only [State.scanned, State.reportIf_link]
  have saving : t.isSaving = s.isSaving := by
    simp only [State.isSaving, taken.store, State.scanned, State.reportIf_store]
  have battery : t.est.battery = s.est.battery := by rw [taken.battery]; simp only [State.scanned, State.reportIf_est]
  have force (i : Ch) : t.chans[i].force = s.chans[i].force := by
    rw [taken.force]; simp only [State.scanned, State.reportIf_chans]
  have hrun : t.power.st = .run := by rw [power, h]
  obtain ⟨cpower, cest, ctiers⟩ := t.concluded_run told hrun
  obtain ⟨kept, dozes⟩ := t.dozeTest_power hrun
  have final : s.completeScan f smp ord = t.concluded told false := by rw [State.completeScan, e, ht]
  rw [final, cpower, cest, ctiers, dozes, State.autoDozeDue_iff]
  refine ⟨by rw [kept, power], ?_⟩
  simp only [now, power, link, saving, battery, force, h, true_and]

theorem Scanner.readings_fields {a b : Scanner} (h : a.readings = b.readings) :
    a.record = b.record ∧ a.number = b.number ∧ a.lastV = b.lastV ∧ a.lastI = b.lastI ∧ a.vRun = b.vRun ∧
    a.iRun = b.iRun ∧ a.senseFault = b.senseFault := by
  simpa [Scanner.readings] using h

/-- Settles O53: the scanner's readings after the completion are those of its own part, since the blocks that take the record and
the end of the completion leave them (`State.consume_readings`); in RUN the auto-doze test made last decides the power state
(`State.completeScan_power`). -/
theorem aScanCompletesWithItsRecord : Obligations.AScanCompletesWithItsRecord := by
  unfold Obligations.AScanCompletesWithItsRecord
  intro dt smp ord s f hr hf hd
  rw [← Scan.ends_eq] at hd
  simp only [← readVoltage_cast, ← readCurrent_eq, ← readChannel_cast, ← voltageValid_eq, ← currentValid_eq]
  have runs := exec_scanComplete dt smp ord s f hr hf hd
  have left := (s.elapse dt).completeScan_readings f smp ord
  rw [State.elapse_scanner] at left
  generalize ht : (s.elapse dt).completeScan f smp ord = t at runs left
  obtain ⟨hrecord, hnumber, hlast, hpower, hvRun, hiRun, hkept, hfault⟩ := s.scanner.complete_counts f smp
  rw [hvRun, hiRun] at hfault
  obtain ⟨record, number, lastV, lastI, vRun, iRun, fault⟩ := Scanner.readings_fields left
  refine ⟨t, (s.scanner.complete f smp).2, runs, record.trans hrecord, hnumber, number.trans hlast, hpower,
    vRun.trans hvRun, iRun.trans hiRun, hfault, fault.trans (hkept.trans hfault), fun ok => ?_, fun bad => ?_,
    fun ok => ?_, fun bad => ?_, fun i => ?_, fun test run => ?_⟩
  · obtain ⟨hv, hs, hl⟩ := s.scanner.complete_voltage_valid f smp ok
    exact ⟨by rw [hv], hs, lastV.trans hl⟩
  · obtain ⟨hv, hl, hs⟩ := s.scanner.complete_voltage_invalid f smp bad
    exact ⟨hv, lastV.trans hl, hvRun ▸ hs⟩
  · obtain ⟨hi, hs, hl⟩ := s.scanner.complete_current_valid f smp ok
    exact ⟨hi, hs, lastI.trans hl⟩
  · obtain ⟨hi, hl, hs⟩ := s.scanner.complete_current_invalid f smp bad
    exact ⟨hi, lastI.trans hl, hiRun ▸ hs⟩
  · rw [Scanner.complete_currents]; split <;> rfl
  · rw [← ht]; exact (s.elapse dt).completeScan_power f smp ord test run

end Sys2Proof.Machine
end

section
/-! PROOFS. The end of a reset. -/

namespace Sys2Proof.Machine

/-! ### An output that stands off -/

/-- A derivation of an output that is off turns it on where the law says so, and changes nothing else (R71, R72). -/
theorem Chan.derive_of_off (now : Nat) (c : Chan) (h : c.out = false) :
    c.derive now = if c.law then c.turnOn now else c := by
  rcases c.derive_cases now with ⟨hl, e⟩ | ⟨hl, _, e⟩ | ⟨_, ho, _⟩ | ⟨_, ho, _⟩
  · rw [e, hl, h]; rfl
  · rw [e, hl]; rfl
  · rw [h] at ho; cases ho
  · rw [h] at ho; cases ho

theorem Chan.derive_out_of_off (now : Nat) (c : Chan) (h : c.out = false) : (c.derive now).out = c.law := by
  rw [c.derive_of_off now h]; split
  · rename_i hl; rw [hl]; rfl
  · rename_i hl; rw [h]; simpa using hl

theorem Chan.derive_lastOff_of_off (now : Nat) (c : Chan) (h : c.out = false) : (c.derive now).lastOff = c.lastOff := by
  rw [c.derive_of_off now h]; split <;> rfl

/-- An output that is off comes on exactly when the law says so (R72). -/
theorem Chan.comesOn_of_off (now : Nat) (c : Chan) (h : c.out = false) : c.comesOn now = c.law := by
  rw [Chan.comesOn, c.derive_out_of_off now h, h]; simp

/-! ### Each block at the end of a reset -/

/-- After a reset a channel with demand ON may stand on exactly when it is EXEMPT: every other one is marked (R71, R112). -/
theorem Chan.afterReset_law (c : Chan) (cold : Bool) (cfg : LoadSettings) :
    (c.afterReset cold cfg).law = ((c.afterReset cold cfg).demand && decide (cfg.cls = .exempt)) := by
  by_cases hx : cfg.cls = .exempt <;> cases hf : cfg.fitted <;>
    simp [Chan.law, Chan.afterReset, Chan.fresh, hx, hf]

/-- A record after a reset: its streak and confirming value are cleared, and its state is the one of R64. -/
theorem TierRecord.fresh_eq (cfg : TierSettings) (source : Bool) : TierRecord.fresh cfg source =
    { cfg := cfg
      st := if cfg.measure = .off then .disabled else if cfg.suppress && source then .suppressed else .clear
      streak := 0
      conf := none } := by
  by_cases hm : cfg.measure = .off <;> cases hs : (cfg.suppress && source) <;>
    simp [TierRecord.fresh, TierRecord.suppression, TierRecord.go, hm, hs]

theorem TierRecord.fresh_calls (cfg : TierSettings) (source : Bool) : (TierRecord.fresh cfg source).calls = false := by
  rw [TierRecord.fresh_eq, TierRecord.calls]; dsimp only; split_ifs <;> rfl

theorem TierMonitor.fresh_get (cfgs : Vector TierSettings 5) (source : Bool) (k : Fin 5) :
    (TierMonitor.fresh cfgs source).recs[k] = TierRecord.fresh cfgs[k] source := by
  simp [TierMonitor.fresh, TierMonitor.form]

/-- No record calls for shedding after a reset (R64). -/
theorem TierMonitor.fresh_depth (cfgs : Vector TierSettings 5) (source : Bool) :
    (TierMonitor.fresh cfgs source).depth = 0 := by
  simp [TierMonitor.fresh, TierMonitor.form, depthOf, TierRecord.fresh_calls]

theorem curveIsValid_eq (curve : Vector CurvePoint 16) : curveIsValid curve =
    decide (∀ k : Fin 15, curve[k.val].mv < curve[k.val + 1].mv ∧ curve[k.val].reserve ≤ curve[k.val + 1].reserve) := by
  rw [Bool.eq_iff_iff]; simp [curveIsValid]

/-! ### The profile load (R176) -/

theorem isOrder_iff (l : List Ch) : isOrder l = true ↔ ∀ i : Ch, l.count i = 1 := by
  simp [isOrder, channels]

/-- An image passes the check with the format number 1 and a CRC that matches, and no other is loaded (R170, R176). -/
theorem Store.loadable_image (st : Store) (im : Image) (h : st.image = some im) : st.loadable =
    if im.format = 1 ∧ im.crc = crc16 (u8 im.format ++ im.sections.field) then some im.sections else none := by
  simp only [Store.loadable, h]
  exact if_congr (and_congr Iff.rfl eq_comm) rfl rfl

/-! ### The part as it takes up its work -/

/-- The part at the end of a reset that loads the profile `p` from `source` (R146). -/
def State.takesUp (s : State) (r : ResetInfo) (p : Profile) (source : ProfileSource) (adr : BitVec 4) (br : BitVec 2) :
    State :=
  (s.restored r p source adr br).started source

/-- An image that passes its check gives the sections that the owners take (R176). -/
theorem State.endReset_image (s : State) (r : ResetInfo) (adr : BitVec 4) (br : BitVec 2) {p : Profile}
    (h : s.store.loadable = some p) : s.endReset r adr br = s.takesUp r p.taken .store adr br := by
  simp only [State.endReset, h, State.takesUp]

/-- Without such an image the owners take the factory profile (R176). -/
theorem State.endReset_factory (s : State) (r : ResetInfo) (adr : BitVec 4) (br : BitVec 2)
    (h : s.store.loadable = none) : s.endReset r adr br = s.takesUp r factoryProfile .factory adr br := by
  simp only [State.endReset, h, State.takesUp]

section

variable (s : State) (r : ResetInfo) (p : Profile) (source : ProfileSource) (adr : BitVec 4) (br : BitVec 2)

theorem State.takesUp_now : (s.takesUp r p source adr br).now = s.now := by
  simp [State.takesUp, State.started, State.restored]
theorem State.takesUp_inReset : (s.takesUp r p source adr br).inReset = none := by
  simp [State.takesUp, State.started, State.restored]
theorem State.takesUp_est : (s.takesUp r p source adr br).est = s.est.afterReset r.cold p := by
  simp [State.takesUp, State.started, State.restored]
theorem State.takesUp_tiers :
    (s.takesUp r p source adr br).tiers = TierMonitor.fresh p.tiers (s.power.shore.raw || s.power.ign.raw) := by
  simp [State.takesUp, State.started, State.restored, Power.afterReset]
theorem State.takesUp_seq : (s.takesUp r p source adr br).seq =
    { order := p.order, st := .settle, lastStep := none, settleStart := none, cfg := p.sequence } := by
  simp [State.takesUp, State.started, State.restored]
theorem State.takesUp_holds : (s.takesUp r p source adr br).holds = [] := by
  simp [State.takesUp, State.started, State.restored]
theorem State.takesUp_power :
    (s.takesUp r p source adr br).power = s.power.afterReset s.now r adr br p.doze := by
  simp [State.takesUp, State.started, State.restored]
theorem State.takesUp_link : (s.takesUp r p source adr br).link = Link.cleared s.now := by
  simp [State.takesUp, State.started, State.restored]
theorem State.takesUp_store : (s.takesUp r p source adr br).store =
    { s.store with saving := none, outcome := .none, source := source } := by
  simp [State.takesUp, State.started, State.restored]

/-- RESTART is latched, and STORE beside it when the factory profile was loaded (R146, R164). -/
theorem State.takesUp_latch : (s.takesUp r p source adr br).notices.latch =
    if source = .factory then 0b100000001 else 0b000000001 := by
  cases source <;> simp [State.takesUp, State.started, State.restored, Notices.edge, NoticeCode.bit]
theorem State.takesUp_ackMark : (s.takesUp r p source adr br).notices.ackMark = 0 := by
  cases source <;> simp [State.takesUp, State.started, State.restored, Notices.edge]
theorem State.takesUp_mask : (s.takesUp r p source adr br).notices.mask = p.masks := by
  simp [State.takesUp, State.started, State.restored]

/-- Each output is derived from its channel's state after the reset, and the first scan begins (R146). -/
theorem State.takesUp_chan (i : Ch) : (s.takesUp r p source adr br).chans[i] =
    { (s.chans[i].afterReset r.cold p.loads[i]).derive s.now with
      onBefore := ((s.chans[i].afterReset r.cold p.loads[i]).derive s.now).out } := by
  simp [State.takesUp, State.started, State.restored]

theorem State.takesUp_tally (k : Fin 8) : (s.takesUp r p source adr br).tally[k] =
    ((⟨p.counters[k], if r.cold then 0 else s.tally[k].value⟩ : Counter).count .forceLapse
      (if r.foundForce then [0] else [])).count .switchOn
      (channelNos fun i => (s.chans[i].afterReset r.cold p.loads[i]).comesOn s.now) := by
  simp [State.takesUp, State.started, State.restored, State.derive, State.reportIf]

theorem State.takesUp_gather : (s.takesUp r p source adr br).gather = p := by
  have tiers : (Vector.ofFn fun k : Fin 5 => (s.takesUp r p source adr br).tiers.recs[k].cfg) = p.tiers := by
    ext1 k hk; simp [State.takesUp_tiers, TierMonitor.fresh, TierMonitor.form, TierRecord.fresh]
  have loads : (Vector.ofFn fun i : Ch => (s.takesUp r p source adr br).chans[i].cfg) = p.loads := by
    ext1 i hi; simp only [State.takesUp_chan, Chan.derive_cfg]; simp [Chan.afterReset, Chan.fresh]
  have counters : (Vector.ofFn fun k : Fin 8 => (s.takesUp r p source adr br).tally[k].sel) = p.counters := by
    ext1 k hk; simp only [State.takesUp_tally, Counter.count_sel]; simp
  simp only [State.gather, tiers, loads, counters, State.takesUp_est, State.takesUp_seq, State.takesUp_mask,
    State.takesUp_power, Estimator.afterReset, Power.afterReset]

theorem State.takesUp_cfg (i : Ch) : (s.takesUp r p source adr br).chans[i].cfg = p.loads[i] := by
  rw [State.takesUp_chan]; simp [Chan.afterReset, Chan.fresh]

/-- What each channel holds as the part takes up its work (R91, R112). -/
theorem State.takesUp_loads (i : Ch) :
    let c := (s.takesUp r p source adr br).chans[i]
    let marked := c.demand && decide (c.cfg.cls ≠ .exempt)
    c.demand = (c.cfg.fitted && if r.cold then c.cfg.startDemand else s.chans[i].demand) ∧
    c.mark = (if marked then some ⟨.reset, 0⟩ else none) ∧
    c.lastOff = (if marked then ⟨.reset, 0⟩ else ⟨.none, 0⟩) ∧
    c.out = (c.demand && decide (c.cfg.cls = .exempt)) ∧ c.prot = .normal ∧ c.retries = 0 ∧
    c.force = .none ∧ c.usage = (if r.cold then 0 else s.chans[i].usage) := by
  have off : (s.chans[i].afterReset r.cold p.loads[i]).out = false := rfl
  dsimp only
  rw [State.takesUp_cfg, State.takesUp_chan]
  dsimp only
  rw [Chan.derive_lastOff_of_off _ _ off, Chan.derive_out_of_off _ _ off, Chan.afterReset_law]
  rw [Chan.derive_demand, Chan.derive_mark, Chan.derive_prot, Chan.derive_retries, Chan.derive_force, Chan.derive_usage]
  exact ⟨rfl, rfl, rfl, rfl, rfl, rfl, rfl, rfl⟩

/-- What the Estimator holds as the part takes up its work (R41, R42). -/
theorem State.takesUp_estimate :
    let e := (s.takesUp r p source adr br).est
    e.st = .start ∧ e.window = [] ∧ e.averaged = 0 ∧ e.compensated = 0 ∧ e.restTimer = 0 ∧
    e.fullTimer = 0 ∧ e.fullLatched = false ∧ e.seedPending = (r.cold || s.est.seedPending) ∧
    e.unconfirmed = (r.cold || s.est.unconfirmed) ∧ (r.cold = true → e.q = 0) ∧
    (r.cold = false → e.battery.capacity = s.est.battery.capacity → e.q = s.est.q) ∧
    (r.cold = false → e.battery.capacity ≠ s.est.battery.capacity →
      e.q = s.est.q * (e.battery.capacity * 3600000) / (s.est.battery.capacity * 3600000)) ∧
    e.reserve = e.q * 1000 / (e.battery.capacity * 3600000) ∧
    e.curveValid = decide (∀ k : Fin 15, e.curve[k.val].mv < e.curve[k.val + 1].mv ∧
      e.curve[k.val].reserve ≤ e.curve[k.val + 1].reserve) := by
  dsimp only
  rw [State.takesUp_est]
  refine ⟨rfl, rfl, rfl, rfl, rfl, rfl, rfl, rfl, rfl, fun c => ?_, fun c same => ?_, fun c other => ?_, rfl,
    curveIsValid_eq p.curve⟩
  · simp only [Estimator.afterReset, c, if_true]
  · have same' : p.battery.capacity = s.est.battery.capacity := same
    simp only [Estimator.afterReset, c, same', Bool.false_eq_true, if_false, if_true]
  · have other' : p.battery.capacity ≠ s.est.battery.capacity := other
    simp only [Estimator.afterReset, c, other', Bool.false_eq_true, if_false, BatterySettings.full]

/-- The first scan of a part that takes up its work (R16). -/
theorem State.takesUp_scanner :
    let t := s.takesUp r p source adr br
    t.scanner = { Scanner.fresh with
      inFlight := some ⟨.run, Vector.ofFn fun i : Ch => t.chans[i].cfg.fitted, t.now⟩
      timer := some (t.now + 100 * Config.unitsPerMs) } := by
  have plan : ((s.restored r p source adr br).derive).planNow =
      Vector.ofFn fun i : Ch => (s.takesUp r p source adr br).chans[i].cfg.fitted := by
    ext1 i hi
    simp [State.planNow_eq, State.takesUp, State.started, State.restored, Power.afterReset]
  dsimp only
  rw [← plan]
  simp [State.takesUp, State.started, State.restored, State.beginScan, Power.afterReset, PowerState.periodMs]

end

/-! ### The events of a reset's end (R146, R165) -/

theorem Counter.count_value_eq (k : EventKind) (l : List Nat) (c : Counter) :
    (c.count k l).value = min Config.totalMax (c.value + (l.filter (c.sel.counts k)).length) := rfl

/-- How many of the channels with an event a counter counts (R165). -/
theorem Selector.counts_channels (sel : Selector) (k : EventKind) (hk : k ≠ .none) (e : Ch → Bool) :
    ((channelNos e).filter (sel.counts k)).length =
      if sel.kind = k ∧ sel.inhibit = false then
        channels.countP fun i => e i && (decide (sel.qualifier = 0) || decide (sel.qualifier = i.val + 1))
      else 0 := by
  have counted (i : Ch) : sel.counts k (channelNo i) = (decide (sel.kind = k ∧ sel.inhibit = false) &&
      (decide (sel.qualifier = 0) || decide (sel.qualifier = i.val + 1))) := by
    by_cases h : sel.kind = k
    · cases hi : sel.inhibit
      · simp [Selector.counts, h, hk, hi]; rfl
      · simp [Selector.counts, hi]
    · simp [Selector.counts, h]
  have all : (channels.filter e).filter (fun i => sel.counts k (channelNo i)) = channels.filter fun i =>
      decide (sel.kind = k ∧ sel.inhibit = false) &&
        (e i && (decide (sel.qualifier = 0) || decide (sel.qualifier = i.val + 1))) := by
    rw [List.filter_filter]
    refine List.filter_congr fun i _ => ?_
    rw [counted, Bool.and_assoc, Bool.and_comm (e i)]
  rw [channelNos, List.filter_map, List.length_map, Function.comp_def, all, ← List.countP_eq_length_filter]
  split <;> simp [*]

/-- Whether a counter counts a force lapse (R132, R165). -/
theorem Selector.counts_forceLapse (sel : Selector) (found : Bool) :
    ((if found then [0] else []).filter (sel.counts .forceLapse)).length =
      if sel.kind = .forceLapse ∧ sel.inhibit = false ∧ found = true ∧ sel.qualifier = 0 then 1 else 0 := by
  cases found
  · simp
  · by_cases hk : sel.kind = .forceLapse <;> by_cases hq : sel.qualifier = 0 <;> cases hi : sel.inhibit <;>
      simp [Selector.counts, hk, hq, hi]

/-- The events of a reset's end that a counter counts are lapses or outputs that come on, never both (R165). -/
theorem Selector.events_add (sel : Selector) (found : Bool) (n : Nat) :
    (if sel.kind = .forceLapse ∧ sel.inhibit = false ∧ found = true ∧ sel.qualifier = 0 then 1 else 0) +
      (if sel.kind = .switchOn ∧ sel.inhibit = false then n else 0) =
    if sel.inhibit then 0
    else if sel.kind = .forceLapse then (if found = true ∧ sel.qualifier = 0 then 1 else 0)
    else if sel.kind = .switchOn then n else 0 := by
  cases sel.inhibit
  · by_cases lapse : sel.kind = .forceLapse
    · simp [lapse]
    · simp [lapse]
  · simp

theorem State.takesUp_sel (s : State) (r : ResetInfo) (p : Profile) (source : ProfileSource) (adr : BitVec 4)
    (br : BitVec 2) (k : Fin 8) : (s.takesUp r p source adr br).tally[k].sel = p.counters[k] := by
  rw [State.takesUp_tally]; rfl

/-- A tally as the part takes up its work: the force lapse of the reset's start and the outputs that come on are counted
under the new selectors (R134, R146, R168). -/
theorem State.takesUp_value (s : State) (r : ResetInfo) (p : Profile) (source : ProfileSource) (adr : BitVec 4)
    (br : BitVec 2) (k : Fin 8) :
    let t := s.takesUp r p source adr br
    let sel := t.tally[k].sel
    t.tally[k].value = min Config.totalMax (min Config.totalMax ((if r.cold then 0 else s.tally[k].value) +
      (if sel.kind = .forceLapse ∧ sel.inhibit = false ∧ r.foundForce = true ∧ sel.qualifier = 0 then 1 else 0)) +
      if sel.kind = .switchOn ∧ sel.inhibit = false then
        channels.countP fun i => t.chans[i].out && (decide (sel.qualifier = 0) || decide (sel.qualifier = i.val + 1))
      else 0) := by
  have out (i : Ch) : (s.takesUp r p source adr br).chans[i].out =
      (s.chans[i].afterReset r.cold p.loads[i]).comesOn s.now := by
    rw [State.takesUp_chan, Chan.comesOn_of_off _ _ rfl]
    exact Chan.derive_out_of_off _ _ rfl
  simp only [State.takesUp_sel, out]
  rw [State.takesUp_tally, Counter.count_value_eq, Counter.count_value_eq, Selector.counts_forceLapse,
    Selector.counts_channels _ _ (by decide)]
  rfl

/-- RESET_END during a reset takes up the work with a profile that is the one of an image that passes its check, as the owners
take it, or else the factory profile (R146, R176). -/
theorem exec_resetEnd (dt : Nat) (adr : BitVec 4) (br : BitVec 2) (s : State) (r : ResetInfo) (h : s.inReset = some r) :
    ∃ p source, exec (.resetEnd dt adr br) s = .next ((s.elapse dt).takesUp r p source adr br) ∧
      ((s.store.loadable = none ∧ p = factoryProfile ∧ source = .factory) ∨
        ∃ q, s.store.loadable = some q ∧ p = q.taken ∧ source = .store) := by
  have ends : exec (.resetEnd dt adr br) s = .next ((s.elapse dt).endReset r adr br) := by
    simp only [exec, execResetEnd, State.elapse_inReset, h]
  cases hl : s.store.loadable with
  | none => exact ⟨_, _, by rw [ends, (s.elapse dt).endReset_factory r adr br hl], .inl ⟨rfl, rfl, rfl⟩⟩
  | some q => exact ⟨_, _, by rw [ends, (s.elapse dt).endReset_image r adr br hl], .inr ⟨q, rfl, rfl, rfl⟩⟩

/-- The owners of a part hold, section by section, the profile that is gathered from them (R170, R173). -/
theorem State.gather_fields {t : State} {p : Profile} (h : t.gather = p) :
    t.est.battery = p.battery ∧ (∀ k : Fin 5, t.tiers.recs[k].cfg = p.tiers[k]) ∧
    (∀ i : Ch, t.chans[i].cfg = p.loads[i]) ∧ t.seq.order = p.order ∧ t.est.curve = p.curve ∧ t.seq.cfg = p.sequence ∧
    t.notices.mask = p.masks ∧ (∀ k : Fin 8, t.tally[k].sel = p.counters[k]) ∧ t.power.cfg = p.doze := by
  subst h
  exact ⟨rfl, fun k => by simp [State.gather], fun i => by simp [State.gather], rfl, rfl, rfl, rfl,
    fun k => by simp [State.gather], rfl⟩

/-- The sections of an image as their owners take them (R176). -/
theorem Profile.taken_fields (p : Profile) :
    (∀ k : Fin 5, p.taken.tiers[k] = TierSettings.clamp
      (if k = 4 then { p.tiers[k] with measure := .voltage, suppress := false } else p.tiers[k])) ∧
    (∀ i : Ch, p.taken.loads[i] = p.loads[i].clamp) ∧
    p.taken.order = (if ∀ i : Ch, p.order.count i = 1 then p.order else channels) ∧
    (∀ k : Fin 16, p.taken.curve[k] = p.curve[k].clamp) ∧
    (∀ k : Fin 8, p.taken.counters[k] = p.counters[k].clamp) := by
  refine ⟨fun k => ?_, fun i => by simp [Profile.taken], if_congr (isOrder_iff _) rfl rfl,
    fun k => by simp [Profile.taken], fun k => by simp [Profile.taken]⟩
  simp only [Profile.taken, Fin.getElem_fin, Vector.getElem_ofFn, Fin.eta]
  split <;> rfl

/-- A part whose owners hold the sections of an image holds each of them clamped, with the cutoff's fixed measure and flag, and
with the factory order for an ORDER that is no permutation (R44, R176). -/
theorem State.gather_taken {t : State} {p : Profile} (h : t.gather = p.taken) :
    t.est.battery = p.battery.clamp ∧
    (∀ k : Fin 5, t.tiers.recs[k].cfg = TierSettings.clamp
      (if k = 4 then { p.tiers[k] with measure := .voltage, suppress := false } else p.tiers[k])) ∧
    (∀ i : Ch, t.chans[i].cfg = p.loads[i].clamp) ∧
    t.seq.order = (if ∀ i : Ch, p.order.count i = 1 then p.order else channels) ∧
    (∀ k : Fin 16, t.est.curve[k] = p.curve[k].clamp) ∧ t.seq.cfg = p.sequence.clamp ∧
    t.notices.mask = p.masks ∧ (∀ k : Fin 8, t.tally[k].sel = p.counters[k].clamp) ∧ t.power.cfg = p.doze.clamp := by
  obtain ⟨battery, tier, load, order, curve, sequence, masks, selector, doze⟩ := State.gather_fields h
  obtain ⟨takenTier, takenLoad, takenOrder, takenCurve, takenSelector⟩ := p.taken_fields
  exact ⟨battery, fun k => (tier k).trans (takenTier k), fun i => (load i).trans (takenLoad i), order.trans takenOrder,
    fun k => by rw [curve]; exact takenCurve k, sequence, masks, fun k => (selector k).trans (takenSelector k), doze⟩

/-- Settles O44: RESET_END takes up the work with one profile (`exec_resetEnd`), from which each block's values are formed as the
lemmas about `State.takesUp` say; which profile it is follows from the check of the image. -/
theorem theEndOfAResetTakesUpWork : Obligations.TheEndOfAResetTakesUpWork := by
  unfold Obligations.TheEndOfAResetTakesUpWork
  intro dt adr br s r hr cold
  obtain ⟨p, source, runs, loaded⟩ := exec_resetEnd dt adr br s r hr
  have gather := (s.elapse dt).takesUp_gather r p source adr br
  have inReset := (s.elapse dt).takesUp_inReset r p source adr br
  have now : _ = s.now + dt := (s.elapse dt).takesUp_now r p source adr br
  have power : _ = s.power.afterReset (s.now + dt) r adr br p.doze := (s.elapse dt).takesUp_power r p source adr br
  have store : _ = { s.store with saving := none, outcome := .none, source := source } :=
    (s.elapse dt).takesUp_store r p source adr br
  have latch := (s.elapse dt).takesUp_latch r p source adr br
  have ackMark := (s.elapse dt).takesUp_ackMark r p source adr br
  have scanner := (s.elapse dt).takesUp_scanner r p source adr br
  have estimate := (s.elapse dt).takesUp_estimate r p source adr br
  have tiers : _ = TierMonitor.fresh p.tiers (s.power.shore.raw || s.power.ign.raw) :=
    (s.elapse dt).takesUp_tiers r p source adr br
  have loads := (s.elapse dt).takesUp_loads r p source adr br
  have seq := (s.elapse dt).takesUp_seq r p source adr br
  have holds := (s.elapse dt).takesUp_holds r p source adr br
  have link : _ = Link.cleared (s.now + dt) := (s.elapse dt).takesUp_link r p source adr br
  have value := (s.elapse dt).takesUp_value r p source adr br
  generalize (s.elapse dt).takesUp r p source adr br = t at *
  dsimp only at scanner estimate loads value
  have factory (h : s.store.loadable = none) :
      t.gather = factoryProfile ∧ t.store.source = .factory ∧ t.notices.latch = 0b100000001 := by
    rcases loaded with ⟨_, hp, hs⟩ | ⟨q, hq, _, _⟩
    · exact ⟨gather.trans hp, by rw [store]; exact hs, by rw [latch, if_pos hs]⟩
    · rw [h] at hq; cases hq
  refine ⟨t, runs, ?_, fun absent => factory (by simp [Store.loadable, absent]),
    fun im him => ⟨fun fails => ?_, fun passes => ?_⟩, fun hs => ?_, ?_, ?_, estimate, ?_, loads, ?_, ?_,
    fun hcold k unselected => ?_, fun ceiling k => ?_⟩
  · rw [now, power]
    exact ⟨inReset, rfl, rfl, rfl, rfl, rfl, rfl, rfl, rfl, rfl⟩
  · exact factory (by rw [s.store.loadable_image im him, if_neg fails])
  · have loadable : s.store.loadable = some im.sections := by rw [s.store.loadable_image im him, if_pos passes]
    obtain ⟨hp, hs⟩ : p = im.sections.taken ∧ source = .store := by
      rcases loaded with ⟨h, _⟩ | ⟨q, hq, hp, hs⟩
      · rw [loadable] at h; cases h
      · rw [loadable] at hq; cases hq; exact ⟨hp, hs⟩
    exact ⟨by rw [store]; exact hs, State.gather_taken (gather.trans hp)⟩
  · rw [store] at hs
    rw [latch, if_neg (by rw [show source = .store from hs]; decide)]
  · rw [store]
    exact ⟨rfl, rfl, rfl, rfl, ackMark⟩
  · rw [scanner]; exact ⟨rfl, rfl, rfl, rfl, rfl⟩
  · rw [tiers]
    refine ⟨fun k => ?_, TierMonitor.fresh_depth _ _⟩
    rw [TierMonitor.fresh_get, TierRecord.fresh_eq]; exact ⟨rfl, rfl, rfl⟩
  · rw [seq]
    exact ⟨rfl, rfl, rfl, holds⟩
  · rw [link, now]; exact ⟨rfl, rfl, rfl, rfl⟩
  · rw [value, unselected, if_pos (show r.cold = true from hcold)]; simp
  · rw [value]
    have below : (if r.cold then 0 else (s.elapse dt).tally[k].value) ≤ Config.totalMax := by
      split
      · exact Nat.zero_le _
      · exact ceiling.tallies k
    dsimp only
    rw [← Selector.events_add]
    change (min _ (min _ ((if r.cold then 0 else (s.elapse dt).tally[k].value) + _) + _) : Nat) =
      min _ ((if r.cold then 0 else (s.elapse dt).tally[k].value) + _)
    omega

end Sys2Proof.Machine
end

section
/-! PROOFS. What one sound record makes of the estimate. -/

namespace Sys2Proof.Machine

/-! ### The curve's lookup (R34) -/

/-- Between the ends of the curve some segment holds the voltage, whether the curve is VALID or not (R34). -/
theorem exists_segment (mv : Nat → Nat) (v n : Nat) (low : mv 0 ≤ v) (high : v < mv n) :
    ∃ k < n, mv k ≤ v ∧ v < mv (k + 1) := by
  induction n with
  | zero => omega
  | succ n ih =>
    by_cases below : v < mv n
    · obtain ⟨k, hk, found⟩ := ih below
      exact ⟨k, by omega, found⟩
    · exact ⟨n, by omega, by omega, high⟩

/-- The lookup by the three lines of R34: below the curve, above it, and on the first segment that holds the voltage. -/
theorem curveReserve_cases (curve : Vector CurvePoint 16) (v : Nat) :
    (v < curve[0].mv ∧ curveReserve curve v = curve[0].reserve) ∨
    (curve[15].mv ≤ v ∧ curveReserve curve v = curve[15].reserve) ∨
    ∃ n : Fin 15, curve[n.val].mv ≤ v ∧ v < curve[n.val + 1].mv ∧
      curveReserve curve v = segmentReserve curve[n.val] curve[n.val + 1] v := by
  unfold curveReserve
  split
  · exact .inl ⟨by assumption, rfl⟩
  split
  · exact .inr (.inl ⟨by assumption, rfl⟩)
  rename_i low high
  split
  · rename_i n found
    have holds := List.find?_some found
    rw [Bool.and_eq_true, decide_eq_true_eq, decide_eq_true_eq] at holds
    exact .inr (.inr ⟨n, holds.1, holds.2, rfl⟩)
  · rename_i missing
    rw [List.find?_eq_none] at missing
    obtain ⟨k, hk, segment⟩ := exists_segment (fun k => if h : k < 16 then curve[k].mv else 0) v 15
      (by simpa using low) (by simpa using high)
    have none_here := missing ⟨k, hk⟩ (List.mem_finRange _)
    simp only [dif_pos (show k < 16 by omega), dif_pos (show k + 1 < 16 by omega)] at segment
    simp [segment] at none_here

/-- A reserve that the three lines of R34 give is the one that the lookup finds. -/
theorem curveReserve_eq (curve : Vector CurvePoint 16) (v res : Nat)
    (low : v < curve[0].mv → res = curve[0].reserve) (high : curve[15].mv ≤ v → res = curve[15].reserve)
    (segment : ∀ n : Fin 15, curve[n.val].mv ≤ v → v < curve[n.val + 1].mv →
      res = segmentReserve curve[n.val] curve[n.val + 1] v) :
    curveReserve curve v = res := by
  rcases curveReserve_cases curve v with ⟨h, e⟩ | ⟨h, e⟩ | ⟨n, h, h', e⟩
  · rw [e, low h]
  · rw [e, high h]
  · rw [e, segment n h h']

/-- A curve whose points give at most `n` gives at most `n` everywhere (R33, R34). -/
theorem curveReserve_le (curve : Vector CurvePoint 16) (v n : Nat) (points : ∀ k : Fin 16, curve[k].reserve ≤ n) :
    curveReserve curve v ≤ n := by
  rcases curveReserve_cases curve v with ⟨_, e⟩ | ⟨_, e⟩ | ⟨k, _, below, e⟩ <;> rw [e]
  · exact points 0
  · exact points 15
  · exact segmentReserve_le _ _ _ _ (points k.castSucc) (points k.succ) below

/-- A charge given by a reserve of at most 1,000 does not exceed the full charge (R25). -/
theorem charge_le_full (full reserve : Nat) (h : reserve ≤ 1000) : reserve * full / 1000 ≤ full :=
  Nat.div_le_of_le_mul (Nat.mul_le_mul_right full h)

/-! ### Steps 4 to 6 of a tracking scan (R27) -/

/-- The rest correction falls due after `ms` more milliseconds at rest (R28). -/
def Estimator.restDue (e : Estimator) (ms : Nat) : Bool :=
  e.atRest && decide (e.battery.restTime * 60000 ≤ e.restTimer + ms)

/-- The full timer after `ms` more milliseconds of the full condition, which stops it at the full hold (R30). -/
def Estimator.fullTime (e : Estimator) (ms : Nat) : Nat :=
  if e.fullTimer < e.battery.fullHold * 60000 then e.fullTimer + ms else e.fullTimer

/-- The full resynchronisation falls due after `ms` more milliseconds (R30, R31). -/
def Estimator.fullDue (e : Estimator) (ms : Nat) : Bool :=
  e.fullCondition && decide (e.battery.fullHold * 60000 ≤ e.fullTime ms) && !e.fullLatched

theorem Estimator.rest_eq (e : Estimator) (ms : Nat) : (e.rest ms).1 = { e with
    q := if e.restDue ms && e.curveValid then e.curveQ e.compensated else e.q
    unconfirmed := if e.restDue ms && e.curveValid then false else e.unconfirmed
    restTimer := if e.atRest && !e.restDue ms then e.restTimer + ms else 0 } := by
  unfold Estimator.rest Estimator.restDue
  cases e.atRest
  · rfl
  · by_cases due : e.battery.restTime * 60000 ≤ e.restTimer + ms <;> cases e.curveValid <;> simp [due]

theorem Estimator.fill_eq (e : Estimator) (ms : Nat) : (e.fill ms).1 = { e with
    q := if e.fullDue ms then e.battery.full else e.q
    unconfirmed := if e.fullDue ms then false else e.unconfirmed
    fullTimer := if e.fullCondition then e.fullTime ms else 0
    fullLatched := e.fullCondition && (e.fullLatched || e.fullDue ms) } := by
  unfold Estimator.fill Estimator.fullDue Estimator.fullTime
  cases e.fullCondition
  · rfl
  · by_cases due : e.battery.fullHold * 60000 ≤
        if e.fullTimer < e.battery.fullHold * 60000 then e.fullTimer + ms else e.fullTimer
    · cases e.fullLatched <;> simp [due]
    · simp [due]

/-- Step 4 of R27: a pending seed sets Q at the first estimate, and a tracking scan integrates it (R19, R26). -/
def Estimator.fourth (e : Estimator) (r : ScanRecord) (first : Bool) : Nat :=
  if first then
    if e.seedPending then if e.curveValid then e.curveQ e.compensated else e.battery.full / 2 else e.q
  else integrate e.battery.full e.q r.current r.power.factor

/-- Step 5 of R27: the rest correction, when it is due and the curve is VALID (R29). -/
def Estimator.fifth (e : Estimator) (r : ScanRecord) (first : Bool) : Nat :=
  if e.restDue r.power.periodMs && e.curveValid then e.curveQ e.compensated else e.fourth r first

/-- Step 6 of R27: the full resynchronisation, when it is due (R31). -/
def Estimator.sixth (e : Estimator) (r : ScanRecord) (first : Bool) : Nat :=
  if e.fullDue r.power.periodMs then e.battery.full else e.fifth r first

theorem Estimator.fourth_eq (e : Estimator) (r : ScanRecord) (first : Bool) :
    (if first then e.seed else e.charge r) = { e with
      q := e.fourth r first
      unconfirmed := e.unconfirmed || (first && e.seedPending)
      seedPending := e.seedPending && !first } := by
  unfold Estimator.fourth
  cases first
  · simp [Estimator.charge]
  · cases pending : e.seedPending
    · simp only [Estimator.seed, pending]; cases e; cases pending; simp
    · simp [Estimator.seed, pending]

/-- What a sound record makes of the Estimator, with `x` the Estimator after steps 1 to 3 of R27 (R19, R25, R27). -/
theorem Estimator.take_est (e x : Estimator) (r : ScanRecord) (first : Bool) (hx : x = e.sample r) :
    (e.take r first).est = { x with
      st := .tracking
      q := x.sixth r first
      reserve := reserveOf x.battery.full (x.sixth r first)
      seedPending := x.seedPending && !first
      unconfirmed := if x.fullDue r.power.periodMs || (x.restDue r.power.periodMs && x.curveValid) then false
        else x.unconfirmed || (first && x.seedPending)
      restTimer := if x.atRest && !x.restDue r.power.periodMs then x.restTimer + r.power.periodMs else 0
      fullTimer := if x.fullCondition then x.fullTime r.power.periodMs else 0
      fullLatched := x.fullCondition && (x.fullLatched || x.fullDue r.power.periodMs) } := by
  have joined (a b c : Bool) : (if a then false else if b then false else c) = if a || b then false else c := by
    cases a <;> rfl
  simp only [Estimator.take, ← hx, Estimator.fourth_eq, Estimator.rest_eq, Estimator.fill_eq, ← joined]
  rfl

end Sys2Proof.Machine
end

section
/-! PROOFS. What a command can do to the Estimator, said once, and the law that every step keeps. -/

namespace Sys2Proof.Machine

/-! ### The changes of the Estimator (R17, R32, R35, R38, R41, R175) -/

/-- The profiles that a reset loads: an image's sections as their owners take them, or the factory profile (R176). -/
def Profile.Loads (p : Profile) : Prop := p = factoryProfile ∨ ∃ q : Profile, p = q.taken

/-- All that a command can make of the Estimator: nothing, the work of one record, a write to BATTERY or to CURVE, a charge
set from outside, the factory sections, or the end of a reset. -/
inductive Estimator.Becomes (e : Estimator) : Estimator → Prop where
  | kept : e.Becomes e
  | recorded (r : ScanRecord) : e.Becomes (e.complete r).est
  | battery (w : BatterySettings) : e.Becomes (e.setBattery w.clamp)
  | points (start : Nat) (pts : List CurvePoint) :
      e.Becomes (e.setCurve (curveWith e.curve start (pts.map CurvePoint.clamp)))
  | charged (q : Nat) (h : q ≤ e.battery.full) : e.Becomes (e.setCharge q)
  | defaults : e.Becomes ((e.setBattery factoryProfile.battery).setCurve factoryProfile.curve)
  | restarted (cold : Bool) (p : Profile) (h : p.Loads) : e.Becomes (e.afterReset cold p)

theorem Estimator.Becomes.of_eq {e x : Estimator} (h : x = e) : e.Becomes x := h ▸ .kept

/-! ### The law of the estimate through each change (R25) -/

theorem BatterySettings.clamp_capacity (b : BatterySettings) : 5 ≤ b.clamp.capacity ∧ b.clamp.capacity ≤ 1000 :=
  clampNat_range 5 1000 b.capacity (by decide)

theorem Profile.Loads.capacity {p : Profile} (h : p.Loads) : 5 ≤ p.battery.capacity ∧ p.battery.capacity ≤ 1000 := by
  rcases h with rfl | ⟨q, rfl⟩
  · decide
  · exact q.battery.clamp_capacity

theorem CurvePoint.clamp_reserve (p : CurvePoint) : p.clamp.reserve ≤ 1000 :=
  (clampNat_range 0 1000 p.reserve (by decide)).2

theorem factoryCurve_reserve (k : Fin 16) : factoryProfile.curve[k].reserve ≤ 1000 := by
  revert k; decide

theorem Profile.Loads.points {p : Profile} (h : p.Loads) (k : Fin 16) : p.curve[k].reserve ≤ 1000 := by
  rcases h with rfl | ⟨q, rfl⟩
  · exact factoryCurve_reserve k
  · simpa [Profile.taken] using q.curve[k].clamp_reserve

/-- A charge rescaled to another full charge stays within it (R36). -/
theorem rescale_le {q full : Nat} (other : Nat) (h : q ≤ full) : q * other / full ≤ other :=
  Nat.div_le_of_le_mul (Nat.mul_le_mul_right other h)

theorem curveWith_get (curve : Vector CurvePoint 16) (start : Nat) (pts : List CurvePoint) (k : Fin 16) :
    (curveWith curve start pts)[k] =
      if start ≤ k.val then (pts[k.val - start]?).getD curve[k] else curve[k] := by
  simp [curveWith]

/-- A write to CURVE keeps every reserve in its range (R33). -/
theorem curveWith_reserve (curve : Vector CurvePoint 16) (start : Nat) (pts : List CurvePoint)
    (h : ∀ k : Fin 16, curve[k].reserve ≤ 1000) (k : Fin 16) :
    (curveWith curve start (pts.map CurvePoint.clamp))[k].reserve ≤ 1000 := by
  rw [curveWith_get]
  split
  · cases found : pts[k.val - start]? with
    | none => simpa [found] using h k
    | some p => simpa [found] using p.clamp_reserve
  · exact h k

theorem reserveOf_le {full q : Nat} (h : q ≤ full) : reserveOf full q ≤ 1000 :=
  Nat.div_le_of_le_mul (by simpa [Nat.mul_comm] using Nat.mul_le_mul_right 1000 h)

/-- The reserve is 1,000 only at the full charge (R25). -/
theorem reserveOf_eq_top {full q : Nat} (h : q ≤ full) (top : reserveOf full q = 1000) : q = full := by
  have := Nat.div_mul_le_self (q * 1000) full
  rw [show q * 1000 / full = 1000 from top] at this
  omega

@[simp] theorem Estimator.reform_q (e : Estimator) : e.reform.q = e.q := by cases e; rfl
@[simp] theorem Estimator.reform_reserve (e : Estimator) : e.reform.reserve = reserveOf e.battery.full e.q := by
  cases e; rfl
@[simp] theorem Estimator.reform_compensated (e : Estimator) : e.reform.compensated = e.compensated := by cases e; rfl
@[simp] theorem Estimator.reform_window (e : Estimator) : e.reform.window = e.window := by cases e; rfl
@[simp] theorem Estimator.reform_curve (e : Estimator) : e.reform.curve = e.curve := by cases e; rfl
@[simp] theorem Estimator.reform_curveValid (e : Estimator) : e.reform.curveValid = e.curveValid := by cases e; rfl

namespace State.EstimateLaw

/-- The law holds where the reserve has been formed again and the other values lie in their ranges. -/
theorem of_reform {t : State} (x : Estimator) (e : t.est = x.reform)
    (capacity : 5 ≤ x.battery.capacity ∧ x.battery.capacity ≤ 1000) (charge : x.q ≤ x.battery.full)
    (compensated : x.compensated ≤ 32767) (window : x.window.length ≤ 8)
    (points : ∀ k : Fin 16, x.curve[k].reserve ≤ 1000) (validity : x.curveValid = curveIsValid x.curve) :
    t.EstimateLaw := by
  constructor <;> rw [e] <;> simp only [Estimator.reform_battery, Estimator.reform_q, Estimator.reform_reserve,
    Estimator.reform_compensated, Estimator.reform_window, Estimator.reform_curve, Estimator.reform_curveValid]
  exacts [capacity, charge, compensated, window, points, validity]

variable {s t : State} (h : s.EstimateLaw)
include h

/-- A sound record leaves Q within the full charge: each of the steps 4 to 6 does (R25, R27). -/
theorem sixth_le (x : Estimator) (r : ScanRecord) (first : Bool) (hx : x = s.est.sample r) :
    x.sixth r first ≤ x.battery.full := by
  have curveQ : x.curveQ x.compensated ≤ x.battery.full := by
    rw [hx]; exact charge_le_full _ _ (curveReserve_le _ _ _ h.points)
  have kept : x.q ≤ x.battery.full := by rw [hx]; exact h.charge
  have fourth : x.fourth r first ≤ x.battery.full := by
    unfold Estimator.fourth
    split_ifs
    · exact curveQ
    · exact Nat.div_le_self _ _
    · exact kept
    · exact integrate_le _ _ _ _
  have fifth : x.fifth r first ≤ x.battery.full := by
    unfold Estimator.fifth; split
    · exact curveQ
    · exact fourth
  unfold Estimator.sixth; split
  · exact le_rfl
  · exact fifth

theorem take (r : ScanRecord) (first : Bool) (e : t.est = (s.est.take r first).est) : t.EstimateLaw := by
  rw [Estimator.take_est _ _ r first rfl] at e
  constructor <;> rw [e]
  · exact h.capacity
  · exact h.sixth_le _ r first rfl
  · exact compensate_le _ _ _
  · exact length_joinWindow _ _
  · exact h.points
  · exact h.validity

/-- A change of the estimator state alone keeps the law. -/
theorem enter (st : EstState) (e : t.est = { s.est with st := st }) : t.EstimateLaw := by
  constructor <;> rw [e]
  exacts [h.capacity, h.charge, h.reserve, h.compensated, h.window, h.points, h.validity]

theorem recorded (r : ScanRecord) (e : t.est = (s.est.complete r).est) : t.EstimateLaw := by
  unfold Estimator.complete at e
  split at e
  case h_2 | h_5 | h_8 => exact h.take r _ e
  case h_4 => exact h.enter .frozen e
  all_goals exact h.enter _ e

theorem battery (b : BatterySettings) (range : 5 ≤ b.capacity ∧ b.capacity ≤ 1000)
    (e : t.est = s.est.setBattery b) : t.EstimateLaw := by
  unfold Estimator.setBattery at e
  split at e
  · rename_i same
    have full : b.full = s.est.battery.full := by simp only [BatterySettings.full, same]
    constructor <;> rw [e] <;> simp only [full]
    exacts [range, h.charge, h.reserve, h.compensated, h.window, h.points, h.validity]
  · exact .of_reform _ e range (rescale_le b.full h.charge) h.compensated h.window h.points h.validity

theorem curve (new : Vector CurvePoint 16) (points : ∀ k : Fin 16, new[k].reserve ≤ 1000)
    (e : t.est = s.est.setCurve new) : t.EstimateLaw := by
  constructor <;> rw [e]
  exacts [h.capacity, h.charge, h.reserve, h.compensated, h.window, points, rfl]

theorem charged (q : Nat) (le : q ≤ s.est.battery.full) (e : t.est = s.est.setCharge q) : t.EstimateLaw :=
  .of_reform _ e h.capacity le h.compensated h.window h.points h.validity

theorem restarted (cold : Bool) (p : Profile) (loads : p.Loads) (e : t.est = s.est.afterReset cold p) :
    t.EstimateLaw := by
  constructor <;> rw [e]
  · exact loads.capacity
  · simp only [Estimator.afterReset]
    split_ifs with _ same
    · exact Nat.zero_le _
    · simpa only [BatterySettings.full, same] using h.charge
    · exact rescale_le _ h.charge
  · simp only [Estimator.afterReset]
  · exact Nat.zero_le _
  · exact Nat.zero_le _
  · exact loads.points
  · simp only [Estimator.afterReset]

/-- The law of the estimate through every change of the Estimator (R25). -/
theorem becomes (b : s.est.Becomes t.est) : t.EstimateLaw := by
  generalize e : t.est = x at b
  cases b with
  | kept => exact h.enter s.est.st e
  | recorded r => exact h.recorded r e
  | battery w => exact h.battery _ w.clamp_capacity e
  | points start pts => exact h.curve _ (curveWith_reserve _ start pts h.points) e
  | charged q le => exact h.charged q le e
  | defaults =>
    have written : ({ s with est := s.est.setBattery factoryProfile.battery } : State).EstimateLaw :=
      h.battery _ (by decide) rfl
    exact written.curve _ factoryCurve_reserve e
  | restarted cold p loads => exact h.restarted cold p loads e

end State.EstimateLaw

end Sys2Proof.Machine
end

section
/-! PROOFS. The estimate through the completion of a scan, in every order of the blocks. -/

namespace Sys2Proof.Machine

/-- What every block but the Charge Estimator and its Tier Monitor leaves alone at a completion: the clock, the estimate, the
records of the tiers and the settle start (R14). -/
structure State.SparesEstimate (s t : State) : Prop where
  now : t.now = s.now
  est : t.est = s.est
  tiers : t.tiers = s.tiers
  settleStart : t.seq.settleStart = s.seq.settleStart

namespace State.SparesEstimate

theorem refl (s : State) : s.SparesEstimate s := ⟨rfl, rfl, rfl, rfl⟩

theorem trans {s t u : State} (h : s.SparesEstimate t) (k : t.SparesEstimate u) : s.SparesEstimate u :=
  ⟨k.now.trans h.now, k.est.trans h.est, k.tiers.trans h.tiers, k.settleStart.trans h.settleStart⟩

theorem moves {s t u : State} (h : s.SparesEstimate t) (k : t.Moves u) : s.SparesEstimate u :=
  h.trans ⟨k.now, k.est, k.tiers, k.settleStart⟩

theorem resolveIf {s t : State} (h : s.SparesEstimate t) (p : Prop) [Decidable p] :
    s.SparesEstimate (if p then t.resolve else t) := by
  split
  · exact h.moves t.resolve_moves
  · exact h

end State.SparesEstimate

theorem State.onFault_sparesEstimate (s : State) (b : Bool) : s.SparesEstimate (s.onFault b) :=
  (State.SparesEstimate.refl s).resolveIf _

theorem State.controlled_sparesEstimate (s : State) (r : ScanRecord) : s.SparesEstimate (s.controlled r).1 := by
  simp only [State.controlled]
  exact .resolveIf ⟨by simp, by simp, by simp, by simp⟩ _

theorem State.beginScan_sparesEstimate (s : State) : s.SparesEstimate s.beginScan :=
  ⟨by simp, by simp, by simp, by simp⟩

theorem State.dozeTest_sparesEstimate (s : State) : s.SparesEstimate s.dozeTest := by
  unfold State.dozeTest; split
  · exact ⟨by simp, by simp, by simp, by simp⟩
  · exact .refl s

theorem State.exitDoze_sparesEstimate (s : State) : s.SparesEstimate s.exitDoze := by
  simp only [State.exitDoze]; split_ifs
  · refine .trans ?_ (State.beginScan_sparesEstimate _)
    exact ⟨rfl, rfl, rfl, rfl⟩
  · exact ⟨rfl, rfl, rfl, rfl⟩
  · exact .refl s

theorem State.concluded_sparesEstimate (s : State) (told testFirst : Bool) :
    s.SparesEstimate (s.concluded told testFirst) := by
  have left : s.SparesEstimate (if told then s.exitDoze else s) := by
    split
    · exact s.exitDoze_sparesEstimate
    · exact .refl s
  simp only [State.concluded]
  generalize (if told then s.exitDoze else s) = t at left ⊢
  have tested : s.SparesEstimate (if testFirst then t else t.dozeTest) := by
    split
    · exact left
    · exact left.trans t.dozeTest_sparesEstimate
  generalize (if testFirst then t else t.dozeTest) = u at tested ⊢
  split
  · exact tested.trans (State.beginScan_sparesEstimate _)
  · exact tested

/-- What a record makes of the estimate: the Estimator takes it; one that yields no update touches neither the tiers nor the
settle start; and the first estimate starts the settle time (R17, R27, R113). -/
structure State.TakesEstimate (s t : State) (r : ScanRecord) : Prop where
  est : t.est = (s.est.complete r).est
  quiet : (s.est.complete r).update = false → t.tiers = s.tiers ∧ t.seq.settleStart = s.seq.settleStart
  first : (s.est.complete r).first = true → t.seq.settleStart = some s.now

theorem State.TakesEstimate.between {s t u v : State} {r : ScanRecord} (before : s.SparesEstimate t)
    (h : t.TakesEstimate u r) (after : u.SparesEstimate v) : s.TakesEstimate v r := by
  obtain ⟨est, quiet, first⟩ := h
  rw [before.est, before.tiers, before.settleStart] at quiet
  rw [before.est] at est
  rw [before.est, before.now] at first
  exact ⟨after.est.trans est, fun h => ⟨after.tiers.trans (quiet h).1, after.settleStart.trans (quiet h).2⟩,
    fun h => after.settleStart.trans (first h)⟩

/-- A first estimate is an estimate update (R19). -/
theorem Estimator.complete_first (e : Estimator) (r : ScanRecord) (h : (e.complete r).first = true) :
    (e.complete r).update = true := by
  unfold Estimator.complete at *
  split at h
  case h_2 | h_5 | h_8 => rfl
  all_goals cases h

@[simp] theorem State.evaluateTiers_est (s : State) (r : ScanRecord) : (s.evaluateTiers r).1.est = s.est := by
  simp only [State.evaluateTiers, State.reportIf_est, State.report_est]
@[simp] theorem State.evaluateTiers_seq (s : State) (r : ScanRecord) : (s.evaluateTiers r).1.seq = s.seq := by
  simp only [State.evaluateTiers, State.reportIf_seq, State.report_seq]

theorem State.estimated_takesEstimate (s : State) (r : ScanRecord) : s.TakesEstimate (s.estimated r).1 r := by
  simp only [State.estimated]
  generalize ho : s.est.complete r = o
  generalize hu : State.reportIf (State.reportIf _ _ _) _ _ = u
  have est : u.est = o.est := by rw [← hu]; simp
  have settle : u.seq.settleStart = if o.first then some s.now else s.seq.settleStart := by
    rw [← hu]; simp; split <;> rfl
  have tiers : u.tiers = s.tiers := by rw [← hu]; simp
  split
  · rename_i update
    have moves (p : Prop) [Decidable p] : (u.evaluateTiers r).1.SparesEstimate
        (if p then (u.evaluateTiers r).1.resolve else (u.evaluateTiers r).1) := (State.SparesEstimate.refl _).resolveIf p
    refine ⟨?_, fun h => ?_, fun h => ?_⟩
    · rw [(moves _).est, State.evaluateTiers_est, est, ho]
    · rw [ho, update] at h; cases h
    · rw [ho] at h; rw [(moves _).settleStart, State.evaluateTiers_seq, settle, if_pos h]
  · rename_i update
    have later : o.first = false := by
      by_contra h
      rw [← ho] at update h
      exact update (s.est.complete_first r (by simpa using h))
    refine ⟨est.trans (by rw [ho]), fun _ => ⟨tiers, by rw [settle, later]; rfl⟩, fun h => ?_⟩
    rw [ho, later] at h; cases h

/-- In every order of the blocks a completion makes of the estimate what its record does (R14, R17). -/
theorem State.consume_takesEstimate (s : State) (r : ScanRecord) (changed : Bool) (ord : CompletionOrder) :
    s.TakesEstimate (s.consume r changed ord) r := by
  obtain ⟨faultFirst, controllerFirst, testFirst⟩ := ord
  have tested : s.SparesEstimate (if testFirst then s.dozeTest else s) := by
    split
    · exact s.dozeTest_sparesEstimate
    · exact .refl s
  simp only [State.consume]
  generalize (if testFirst then s.dozeTest else s) = u at tested
  cases faultFirst <;> cases controllerFirst <;> simp only [if_true, if_false, Bool.false_eq_true]
  · exact .between tested (u.estimated_takesEstimate r) (((State.controlled_sparesEstimate _ r).trans
      (State.onFault_sparesEstimate _ changed)).trans (State.concluded_sparesEstimate _ _ testFirst))
  · exact .between (tested.trans (u.controlled_sparesEstimate r)) (State.estimated_takesEstimate _ r)
      ((State.onFault_sparesEstimate _ changed).trans (State.concluded_sparesEstimate _ _ testFirst))
  · exact .between (tested.trans (u.onFault_sparesEstimate changed)) (State.estimated_takesEstimate _ r)
      ((State.controlled_sparesEstimate _ r).trans (State.concluded_sparesEstimate _ _ testFirst))
  · exact .between ((tested.trans (u.onFault_sparesEstimate changed)).trans (State.controlled_sparesEstimate _ r))
      (State.estimated_takesEstimate _ r) (State.concluded_sparesEstimate _ _ testFirst)

/-- A completion makes of the estimate what the record that the scanner formed does (R14, R17). -/
theorem State.completeScan_takesEstimate (s : State) (f : Scan) (smp : Samples) (ord : CompletionOrder) :
    s.TakesEstimate (s.completeScan f smp ord) (s.scanner.complete f smp).2 := by
  have scanned : s.SparesEstimate (s.scanned f smp) := by
    simp only [State.scanned]; exact ⟨by simp, by simp, by simp, by simp⟩
  exact .between scanned (State.consume_takesEstimate _ _ _ ord) (.refl _)

end Sys2Proof.Machine
end

section
/-! PROOFS. Every command makes of the Estimator one of its changes, and so every step keeps the law of the estimate. -/

namespace Sys2Proof.Machine

/-! ### What leaves the Estimator alone -/

@[simp] theorem State.resolve_est (s : State) : s.resolve.est = s.est := s.resolve_moves.est
@[simp] theorem State.resolveOutputs_est (s : State) : s.resolveOutputs.est = s.est := s.resolveOutputs_moves.est
@[simp] theorem State.exitDoze_est (s : State) : s.exitDoze.est = s.est := s.exitDoze_sparesEstimate.est
@[simp] theorem State.writeLoads_est (s : State) (new : Ch → LoadSettings) : (s.writeLoads new).est = s.est := by
  simp only [State.writeLoads, State.dropHolds_est, State.mapChans_est]
@[simp] theorem State.lapse_est (s : State) : s.lapse.est = s.est := by
  unfold State.lapse; split <;> simp
@[simp] theorem State.resetBy_est (s : State) (src : ResetSource) : (s.resetBy src).est = s.est := by
  simp only [State.resetBy]; split <;> simp only [State.startReset]
@[simp] theorem State.dropReply_est (s : State) : s.dropReply.est = s.est := by
  unfold State.dropReply; split <;> simp
@[simp] theorem State.beginChar_est (s : State) (start : Sample3) : (s.beginChar start).est = s.est := by
  unfold State.beginChar; split <;> simp
@[simp] theorem State.fall_est (s : State) (start : Sample3) : (s.fall start).est = s.est := by
  unfold State.fall; split <;> simp
@[simp] theorem State.address_est (s : State) (a : Nat) : (s.address a).est = s.est := by
  unfold State.address; split <;> simp
@[simp] theorem State.sourceChanged_est (s : State) : s.sourceChanged.est = s.est := by
  simp only [State.sourceChanged]; split <;> simp only [State.resolve_est]
@[simp] theorem State.sourceInput_est (s : State) (first : Bool) : (s.sourceInput first).est = s.est := by
  simp only [State.sourceInput]; split <;> simp only [State.exitDoze_est, State.sourceChanged_est]
@[simp] theorem State.installInput_est (s : State) : s.installInput.est = s.est := by
  unfold State.installInput; split <;> simp
@[simp] theorem State.switchOn_est (s : State) (set : Nat) : (s.switchOn set).est = s.est := by
  simp only [State.switchOn]; split <;> simp
@[simp] theorem State.switchOff_est (s : State) (set : Nat) : (s.switchOff set).est = s.est := by
  simp only [State.switchOff]; split <;> simp
@[simp] theorem State.rehold_est (s : State) (i : Ch) (n : Nat) : (s.rehold i n).est = s.est := by
  simp only [State.rehold, State.dropHolds_est]
@[simp] theorem State.placeNew_est (s : State) (i : Ch) (n : Nat) : (s.placeNew i n).est = s.est := by
  simp only [State.placeNew, State.resolve_est]
@[simp] theorem State.release_est (s : State) (i : Ch) : (s.release i).est = s.est := by
  unfold State.release; split <;> simp
@[simp] theorem State.setForce_est (s : State) (i : Ch) (f : Force) : (s.setForce i f).est = s.est := by
  unfold State.setForce; split <;> simp
@[simp] theorem State.clearTrips_est (s : State) (set : Nat) : (s.clearTrips set).est = s.est := by
  simp only [State.clearTrips, State.resolveOutputs_est, State.mapChans_est]
@[simp] theorem State.setMasks_est (s : State) (m : BitVec 9) : (s.setMasks m).est = s.est := by
  simp only [State.setMasks]
@[simp] theorem State.writeTier_est (s : State) (k : Fin 5) (c : TierSettings) : (s.writeTier k c).est = s.est := by
  simp only [State.writeTier]; split <;> simp only [State.resolve_est]
@[simp] theorem State.setLoads_est (s : State) (new : Ch → LoadSettings) : (s.setLoads new).est = s.est := by
  simp only [State.setLoads]; split <;> simp
@[simp] theorem State.setSequence_est (s : State) (c : SequenceSettings) : (s.setSequence c).est = s.est := by
  unfold State.setSequence; split <;> simp
@[simp] theorem State.setOrder_est (s : State) (l : List Ch) : (s.setOrder l).est = s.est := by
  unfold State.setOrder; split <;> simp

/-! ### The answers to requests (R156, R157) -/

@[simp] theorem State.refuse_state (s : State) (st : Status) : (s.refuse st).state = s := rfl
@[simp] theorem State.accept_state (s : State) (st : Status) (p : List Byte) : (s.accept st p).state = s := rfl

/-- An answer of the Request Handler makes of the Estimator one of its changes. -/
def Answer.Changes (s : State) (a : Answer) : Prop := s.est.Becomes a.state.est

theorem State.whenIdle_changes (s : State) (a : Answer) (h : Answer.Changes s a) : Answer.Changes s (s.whenIdle a) := by
  unfold State.whenIdle; split
  · exact .kept
  · exact h

theorem State.whenInstaller_changes (s : State) (a : Answer) (h : Answer.Changes s a) :
    Answer.Changes s (s.whenInstaller a) := by
  unfold State.whenInstaller; split
  · exact s.whenIdle_changes a h
  · exact .kept

section
variable (p : List Nat) (s : State)

theorem ansIdent_changes : Answer.Changes s (ansIdent p s) := by unfold ansIdent; split <;> exact .kept
theorem ansStatus_changes : Answer.Changes s (ansStatus p s) := by unfold ansStatus; split <;> exact .kept
theorem ansLoadStatus_changes : Answer.Changes s (ansLoadStatus p s) := by
  unfold ansLoadStatus; (repeat' split) <;> exact .kept
theorem ansLinkStatus_changes : Answer.Changes s (ansLinkStatus p s) := by unfold ansLinkStatus; split <;> exact .kept
theorem ansCountersRead_changes : Answer.Changes s (ansCountersRead p s) := by
  unfold ansCountersRead; split <;> exact .kept
theorem ansMeasure_changes : Answer.Changes s (ansMeasure p s) := by unfold ansMeasure; split <;> exact .kept
theorem ansSwitch_changes : Answer.Changes s (ansSwitch p s) := by
  unfold ansSwitch; split
  · split
    · exact .kept
    · exact .of_eq (by dsimp only [State.accept_state]; split <;> simp)
  · exact .kept
theorem ansHold_changes : Answer.Changes s (ansHold p s) := by
  unfold ansHold; split
  · split
    · exact .kept
    · dsimp only
      split_ifs
      · exact .kept
      · exact .of_eq (by simp)
      · exact .kept
      · exact .of_eq (by simp)
  · exact .kept
theorem ansReleaseHold_changes : Answer.Changes s (ansReleaseHold p s) := by
  unfold ansReleaseHold; split
  · split
    · exact .kept
    · exact .of_eq (by simp)
  · exact .kept
theorem ansForce_changes : Answer.Changes s (ansForce p s) := by
  unfold ansForce; split
  · split
    · exact .kept
    · split
      · exact .kept
      · split_ifs
        · exact .kept
        · exact .kept
        · exact .of_eq (by simp)
  · exact .kept
theorem ansClearTrip_changes : Answer.Changes s (ansClearTrip p s) := by
  unfold ansClearTrip; split
  · exact .of_eq (by simp)
  · exact .kept
theorem ansClearUsage_changes : Answer.Changes s (ansClearUsage p s) := by
  unfold ansClearUsage; split
  · exact .of_eq (by simp)
  · exact .kept
theorem ansAck_changes : Answer.Changes s (ansAck p s) := by
  unfold ansAck; (repeat' split) <;> exact .kept
theorem ansMask_changes : Answer.Changes s (ansMask p s) := by
  unfold ansMask; split
  · split
    · exact .kept
    · exact .of_eq (by simp)
  · exact .kept
theorem ansCountersClear_changes : Answer.Changes s (ansCountersClear p s) := by
  unfold ansCountersClear; split
  · exact .of_eq (by simp)
  · exact .kept
theorem ansClearLinkCounts_changes : Answer.Changes s (ansClearLinkCounts p s) := by
  unfold ansClearLinkCounts; split <;> exact .kept
theorem ansProfileRead_changes : Answer.Changes s (ansProfileRead p s) := by
  unfold ansProfileRead; (repeat' split) <;> exact .kept

theorem ansWriteBattery_changes : Answer.Changes s (ansWriteBattery p s) := by
  unfold ansWriteBattery; split
  · exact .kept
  · exact s.whenInstaller_changes _ (.battery _)
theorem ansWriteTiers_changes : Answer.Changes s (ansWriteTiers p s) := by
  unfold ansWriteTiers; split
  · split
    · dsimp only
      split
      · exact .kept
      · exact s.whenInstaller_changes _ (.of_eq (by simp))
    · exact .kept
  · exact .kept
theorem ansWriteLoads_changes : Answer.Changes s (ansWriteLoads p s) := by
  unfold ansWriteLoads; split
  · exact .kept
  · dsimp only
    split
    · exact .kept
    · split_ifs
      · exact .kept
      · exact .kept
      · split
        · exact .kept
        · split
          · exact s.whenInstaller_changes _ (.of_eq (by simp))
          · exact s.whenIdle_changes _ (.of_eq (by simp))
theorem ansWriteCurve_changes : Answer.Changes s (ansWriteCurve p s) := by
  unfold ansWriteCurve; split
  · exact .kept
  · split
    · exact .kept
    · split
      · exact .kept
      · exact s.whenInstaller_changes _ (.points _ _)
theorem ansWriteSequence_changes : Answer.Changes s (ansWriteSequence p s) := by
  unfold ansWriteSequence; split
  · exact s.whenInstaller_changes _ (.of_eq (by simp))
  · exact .kept
theorem ansWriteNotice_changes : Answer.Changes s (ansWriteNotice p s) := by
  unfold ansWriteNotice; split
  · split
    · exact .kept
    · exact s.whenIdle_changes _ (.of_eq (by simp))
  · exact .kept
theorem ansWriteCounters_changes : Answer.Changes s (ansWriteCounters p s) := by
  unfold ansWriteCounters; split
  · exact .kept
  · split
    · exact .kept
    · split_ifs
      · exact .kept
      · exact .kept
      · exact s.whenIdle_changes _ (.of_eq (by simp))
theorem ansWriteDoze_changes : Answer.Changes s (ansWriteDoze p s) := by
  unfold ansWriteDoze; split
  · split
    · exact .kept
    · exact s.whenIdle_changes _ .kept
  · exact .kept
theorem ansMove_changes : Answer.Changes s (ansMove p s) := by
  unfold ansMove; split
  · split
    · exact .kept
    · exact s.whenIdle_changes _ (.of_eq (by simp))
  · exact .kept
theorem ansSave_changes : Answer.Changes s (ansSave p s) := by
  unfold ansSave; split
  · refine s.whenIdle_changes _ ?_
    split
    · exact .kept
    · exact .of_eq (by simp)
  · exact .kept

/-- The factory sections of BATTERY and CURVE are taken, and no other section bears on the Estimator (R175). -/
theorem State.takeProfile_est (q : Profile) :
    (s.takeProfile q).est = (s.est.setBattery q.battery).setCurve q.curve := by
  simp only [State.takeProfile, State.writeLoads_est]

theorem ansLoadDefaults_changes : Answer.Changes s (ansLoadDefaults p s) := by
  unfold ansLoadDefaults; split
  · refine s.whenInstaller_changes _ ?_
    simp only [Answer.Changes, State.accept_state, State.resolve_est, State.takeProfile_est]
    exact .defaults
  · exact .kept

/-- SET_CHARGE sets no more than the full charge (R38). -/
theorem State.setCharge_changes (q : Nat) (clamped : Bool) (h : q ≤ s.est.battery.full) :
    Answer.Changes s (s.setCharge q clamped) := by
  refine s.whenInstaller_changes _ ?_
  split
  · exact .kept
  · exact .charged q h
theorem ansSetChargeReserve_changes : Answer.Changes s (ansSetChargeReserve p s) := by
  unfold ansSetChargeReserve; split
  · exact s.setCharge_changes _ _ (charge_le_full _ _ (clampNat_range 0 1000 _ (by decide)).2)
  · exact .kept
theorem ansSetChargeFull_changes : Answer.Changes s (ansSetChargeFull p s) := by
  unfold ansSetChargeFull; split
  · exact s.setCharge_changes _ _ le_rfl
  · exact .kept

theorem ansDoze_changes : Answer.Changes s (ansDoze p s) := by
  unfold ansDoze; split
  · refine s.whenIdle_changes _ ?_
    split
    · exact .kept
    · exact .of_eq (by simp)
  · exact .kept
theorem ansRestart_changes : Answer.Changes s (ansRestart p s) := by unfold ansRestart; split <;> exact .kept

theorem ansProfileWrite_changes : Answer.Changes s (ansProfileWrite p s) := by
  unfold ansProfileWrite; split
  · exact .kept
  · rename_i fields
    split
    exacts [ansWriteBattery_changes fields s, ansWriteTiers_changes fields s, ansWriteLoads_changes fields s,
      ansWriteCurve_changes fields s, ansWriteSequence_changes fields s, ansWriteNotice_changes fields s,
      ansWriteCounters_changes fields s, ansWriteDoze_changes fields s, .kept]
theorem ansSetCharge_changes : Answer.Changes s (ansSetCharge p s) := by
  unfold ansSetCharge; split
  · split
    exacts [ansSetChargeReserve_changes _ s, ansSetChargeFull_changes _ s, .kept]
  · exact .kept

/-- Whatever the KIND, the answer makes of the Estimator one of its changes (R156, R157). -/
theorem answerKind_changes (kind : Nat) : Answer.Changes s (answerKind kind p s) := by
  unfold answerKind; split
  exacts [ansIdent_changes p s, ansStatus_changes p s, ansLoadStatus_changes p s, ansLinkStatus_changes p s,
    ansCountersRead_changes p s, ansMeasure_changes p s, ansSwitch_changes p s, ansHold_changes p s,
    ansReleaseHold_changes p s, ansForce_changes p s, ansClearTrip_changes p s, ansClearUsage_changes p s,
    ansAck_changes p s, ansMask_changes p s, ansCountersClear_changes p s, ansClearLinkCounts_changes p s,
    ansProfileRead_changes p s, ansProfileWrite_changes p s, ansMove_changes p s, ansSave_changes p s,
    ansLoadDefaults_changes p s, ansSetCharge_changes p s, ansDoze_changes p s, ansRestart_changes p s, .kept]

end

end Sys2Proof.Machine
end

section
/-! PROOFS. Every step keeps the law of the estimate. -/

namespace Sys2Proof.Machine

/-! ### Requests, characters and events -/

/-- Handing a request over makes of the Estimator what its answer does (R153, R154). -/
theorem State.handle_becomes (s : State) (kind : Nat) (r : Req) (f : List Nat → State → Answer)
    (hf : ∀ p u, Answer.Changes u (f p u)) : s.est.Becomes (s.handle kind r f).est := by
  have answer := hf (r.payload.map BitVec.toNat) s.frameGood
  rw [Answer.Changes, State.frameGood_est] at answer
  simp only [State.handle]
  split_ifs
  · exact .of_eq (by simp)
  · rw [State.resetBy_est]; exact answer
  · exact answer
  · exact answer

theorem State.request_becomes {s t : State} {dt kind : Nat} {r : Req} {f : List Nat → State → Answer}
    (hf : ∀ p u, Answer.Changes u (f p u)) (h : s.request dt kind r f = .next t) : s.est.Becomes t.est := by
  cases h
  unfold State.awake
  split
  · exact .kept
  dsimp only
  split_ifs
  · exact .kept
  · exact .of_eq (by simp)
  · exact State.handle_becomes (s.elapse dt) kind r f hf

theorem State.event_becomes {s t : State} {dt : Nat} {f : State → State}
    (hf : s.est.Becomes (f (s.elapse dt)).est) (h : s.event dt f = .next t) : s.est.Becomes t.est := by
  cases h
  unfold State.awake
  split
  · exact .kept
  · exact hf

theorem State.acceptFrame_becomes (s : State) (frame : List Byte) : s.est.Becomes (s.acceptFrame frame).est := by
  unfold State.acceptFrame; split
  · exact s.handle_becomes _ _ _ fun p u => answerKind_changes p u _
  · exact .kept

/-- A data character changes the Estimator only by the request that it completes (R153). -/
theorem State.data_becomes (s : State) (d : Nat) : s.est.Becomes (s.data d).est := by
  simp only [State.data]
  split_ifs
  · exact .of_eq (by simp)
  · exact s.acceptFrame_becomes _
  · exact .of_eq (by simp)
  · exact .of_eq (by simp)

theorem State.character_becomes (s : State) (isAddress : Bool) (d : Nat) :
    s.est.Becomes (s.character isAddress d).est := by
  unfold State.character; split
  · split
    · exact .of_eq (by simp)
    · exact .kept
  · split
    · exact .of_eq (by simp)
    · exact s.data_becomes d
  · exact .kept

theorem State.takeChar_becomes (s : State) (fall : Nat) (c : CharSamples) : s.est.Becomes (s.takeChar fall c).est := by
  simp only [State.takeChar]; split
  · rw [← State.onLink_est s]; exact State.character_becomes _ _ _
  · exact .of_eq (by simp)

theorem Profile.Loads.of_loadable {s : State} {p : Profile} {source : ProfileSource}
    (h : (s.store.loadable = none ∧ p = factoryProfile ∧ source = .factory) ∨
      ∃ q, s.store.loadable = some q ∧ p = q.taken ∧ source = .store) : p.Loads := by
  rcases h with ⟨_, factory, _⟩ | ⟨q, _, taken, _⟩
  · exact .inl factory
  · exact .inr ⟨q, taken⟩

/-- Every command makes of the Estimator one of its changes, or leaves it. -/
theorem exec_becomes (c : Instr) (s t : State) (h : exec c s = .next t) : s.est.Becomes t.est := by
  cases c
  case ident => exact State.request_becomes ansIdent_changes h
  case status => exact State.request_becomes ansStatus_changes h
  case loadStatus => exact State.request_becomes ansLoadStatus_changes h
  case linkStatus => exact State.request_becomes ansLinkStatus_changes h
  case countersRead => exact State.request_becomes ansCountersRead_changes h
  case measure => exact State.request_becomes ansMeasure_changes h
  case switch => exact State.request_becomes ansSwitch_changes h
  case hold => exact State.request_becomes ansHold_changes h
  case releaseHold => exact State.request_becomes ansReleaseHold_changes h
  case force => exact State.request_becomes ansForce_changes h
  case clearTrip => exact State.request_becomes ansClearTrip_changes h
  case clearUsage => exact State.request_becomes ansClearUsage_changes h
  case ack => exact State.request_becomes ansAck_changes h
  case mask => exact State.request_becomes ansMask_changes h
  case countersClear => exact State.request_becomes ansCountersClear_changes h
  case clearLinkCounts => exact State.request_becomes ansClearLinkCounts_changes h
  case profileRead => exact State.request_becomes ansProfileRead_changes h
  case profileWriteBattery => exact State.request_becomes ansWriteBattery_changes h
  case profileWriteTiers => exact State.request_becomes ansWriteTiers_changes h
  case profileWriteLoads => exact State.request_becomes ansWriteLoads_changes h
  case profileWriteCurve => exact State.request_becomes ansWriteCurve_changes h
  case profileWriteSequence => exact State.request_becomes ansWriteSequence_changes h
  case profileWriteNotice => exact State.request_becomes ansWriteNotice_changes h
  case profileWriteCounters => exact State.request_becomes ansWriteCounters_changes h
  case profileWriteDoze => exact State.request_becomes ansWriteDoze_changes h
  case move => exact State.request_becomes ansMove_changes h
  case save => exact State.request_becomes ansSave_changes h
  case loadDefaults => exact State.request_becomes ansLoadDefaults_changes h
  case setChargeReserve => exact State.request_becomes ansSetChargeReserve_changes h
  case setChargeFull => exact State.request_becomes ansSetChargeFull_changes h
  case doze => exact State.request_becomes ansDoze_changes h
  case restart => exact State.request_becomes ansRestart_changes h
  case startBit =>
    refine State.event_becomes (.of_eq ?_) h
    split <;> simp
  case characterTaken dt c =>
    refine State.event_becomes ?_ h
    split
    · split
      · exact (s.elapse dt).takeChar_becomes _ c
      · exact .kept
    · exact .kept
  case scanComplete dt smp ord =>
    refine State.event_becomes ?_ h
    split
    · split
      · rw [(State.completeScan_takesEstimate _ _ smp ord).est]; exact .recorded _
      · exact .kept
    · exact .kept
  case rawInputChange => cases h; exact .kept
  case debouncedChange dt i first =>
    refine State.event_becomes (.of_eq ?_) h
    split
    · cases i <;> simp
    · rfl
  case powerOn | supplyLow | rstn => cases h; exact .of_eq (by simp)
  case resetEnd dt adr br =>
    cases hr : s.inReset with
    | none =>
      have idle : exec (.resetEnd dt adr br) s = .next (s.elapse dt) := by simp [exec, execResetEnd, hr]
      rw [idle] at h; cases h; exact .kept
    | some r =>
      obtain ⟨p, source, ends, loaded⟩ := exec_resetEnd dt adr br s r hr
      rw [ends] at h; cases h
      rw [State.takesUp_est]; exact .restarted _ p (Profile.Loads.of_loadable loaded)
  all_goals
    refine State.event_becomes (.of_eq ?_) h
    (repeat' split) <;> simp

/-- A step makes of the Estimator one of its changes, or leaves it. -/
theorem step_becomes (s t : State) (h : step s = .next t) : s.est.Becomes t.est := by
  unfold step at h
  split at h
  · cases h; exact .kept
  · rename_i c rest _
    exact exec_becomes c { s with pending := rest } t h

/-! ### The law (R25) -/

/-- Settles O6: a step makes of the Estimator one of its changes (`step_becomes`), each of which keeps the law
(`State.EstimateLaw.becomes`); the ranges of R25 follow from the law. -/
theorem everyStepKeepsTheEstimateLaw : Obligations.EveryStepKeepsTheEstimateLaw := by
  intro s t law h
  have kept := law.becomes (step_becomes s t h)
  obtain ⟨low, high⟩ := kept.capacity
  refine ⟨kept, by omega, by omega, kept.charge, kept.reserve, ?_, fun top => ?_⟩
  · rw [kept.reserve]; exact reserveOf_le kept.charge
  · rw [kept.reserve] at top; exact reserveOf_eq_top kept.charge top

end Sys2Proof.Machine
end

section
/-! PROOFS. A scan forms the estimate by the class of its record. -/

namespace Sys2Proof.Machine

/-! ### The arithmetic of R22 to R26 -/

/-- A sample joins the window of at most eight, and the oldest leaves a full one (R22). -/
theorem joinWindow_eq (w : List Int) (i : Int) (h : w.length ≤ 8) :
    joinWindow w i = (if w.length = 8 then w.drop 1 else w) ++ [i] := by
  unfold joinWindow
  split
  · rename_i full; rw [full]
  · rw [show w.length - 7 = 0 by omega, List.drop_zero]

/-- Thousandths rounded to nearest, ties away from zero (R24). -/
theorem roundAway_thousand (z : Int) :
    roundAway z 1000 = if 0 ≤ z then (z + 500) / 1000 else -((-z + 500) / 1000) := by
  unfold roundAway; split_ifs <;> omega

theorem compensate_eq (v : Nat) (a : Int) (r : Nat) :
    compensate v a r = (min 32767 (max 0 (v + roundAway (a * r) 1000))).toNat := by
  simp only [compensate, clampToNat, clampInt]; omega

theorem integrate_eq (full q : Nat) (i : Int) (k : Nat) :
    integrate full q i k = (min (full : Int) (max 0 (q - i * k))).toNat := by
  simp only [integrate, clampToNat, clampInt]; omega

theorem PowerState.factor_cast (p : PowerState) : (p.factor : Int) = if p = .run then 1 else 10 := by cases p <;> rfl

theorem Estimator.fullCondition_eq (e : Estimator) : e.fullCondition =
    decide (e.battery.fullVoltage ≤ e.compensated ∧ e.averaged < 0 ∧ e.averaged.natAbs ≤ e.battery.tailCurrent) := by
  rw [Estimator.fullCondition, Bool.and_assoc, ← Bool.decide_and, ← Bool.decide_and]

/-! ### The classes of a record (R17) -/

/-- A record of valid samples has no sense fault and no LOST quantity (R11, R12). -/
theorem Scanner.complete_valid (sc : Scanner) (f : Scan) (smp : Samples) (hv : voltageValid smp = true)
    (hi : currentValid smp = true) :
    (sc.complete f smp).2.senseFault = false ∧
    ¬((sc.complete f smp).2.vStanding = .lost ∨ (sc.complete f smp).2.iStanding = .lost) ∧
    (sc.complete f smp).2.voltage = readVoltage smp.vbs ∧ (sc.complete f smp).2.current = readCurrent smp.shunt := by
  obtain ⟨voltage, vStanding, _⟩ := sc.complete_voltage_valid f smp hv
  obtain ⟨current, iStanding, _⟩ := sc.complete_current_valid f smp hi
  obtain ⟨_, _, _, _, vRun, iRun, _, fault⟩ := sc.complete_counts f smp
  rw [vRun, iRun] at fault
  exact ⟨by simpa [hv, hi] using fault, by simp [vStanding, iStanding], voltage, current⟩

theorem ScanRecord.cls_faulted {r : ScanRecord} (h : r.senseFault = true) : r.cls = .faulted := by
  simp [ScanRecord.cls, h]
theorem ScanRecord.cls_blind {r : ScanRecord} (h : r.senseFault = false)
    (lost : r.vStanding = .lost ∨ r.iStanding = .lost) : r.cls = .blind := by
  simp [ScanRecord.cls, h, lost]
theorem ScanRecord.cls_sound {r : ScanRecord} (h : r.senseFault = false)
    (sound : ¬(r.vStanding = .lost ∨ r.iStanding = .lost)) : r.cls = .sound := by
  simp [ScanRecord.cls, h, sound]

/-- A record with the sense fault takes TRACKING to FROZEN, and yields no update (R18, R20). -/
theorem Estimator.complete_faulted (e : Estimator) (r : ScanRecord) (h : r.cls = .faulted) :
    (e.complete r).est = { e with st := if e.st = .tracking then .frozen else e.st } ∧
    (e.complete r).update = false := by
  obtain ⟨st⟩ := e
  cases st <;> simp [Estimator.complete, Estimator.ignore, h]

/-- A blind record yields nothing in START (R18). -/
theorem Estimator.complete_blind (e : Estimator) (r : ScanRecord) (h : r.cls = .blind) (start : e.st = .start) :
    (e.complete r).est = e ∧ (e.complete r).update = false := by
  simp [Estimator.complete, Estimator.ignore, h, start]

/-- A sound record is the first estimate in START and a tracking scan elsewhere (R19, R20, R27). -/
theorem Estimator.complete_sound (e : Estimator) (r : ScanRecord) (h : r.cls = .sound) :
    e.complete r = e.take r (decide (e.st = .start)) := by
  cases hst : e.st <;> simp [Estimator.complete, h, hst]

/-- Q after steps 4 to 6 of R27, where `charge` is the charge that a VALID curve gives at the compensated voltage. -/
theorem Estimator.sixth_eq (x : Estimator) (r : ScanRecord) (first : Bool) (charge : Nat)
    (h : x.curveValid = true → x.curveQ x.compensated = charge) : x.sixth r first =
      if x.fullDue r.power.periodMs then x.battery.full
      else if x.restDue r.power.periodMs && x.curveValid then charge
      else if first then
        if x.seedPending then if x.curveValid then charge else x.battery.full / 2 else x.q
      else integrate x.battery.full x.q r.current r.power.factor := by
  unfold Estimator.sixth Estimator.fifth Estimator.fourth
  cases valid : x.curveValid
  · simp
  · rw [h valid]

/-- Settles O54: in every order a completion makes of the estimate what its record does
(`State.completeScan_takesEstimate`), by the class of the record; a sound one does the six steps of R27
(`Estimator.take_est`). -/
theorem aScanFormsTheEstimate : Obligations.AScanFormsTheEstimate := by
  unfold Obligations.AScanFormsTheEstimate
  intro dt res smp ord s f hr hf hd hw
  have runs := exec_scanComplete dt smp ord s f hr hf hd
  obtain ⟨est, quiet, first⟩ := (s.elapse dt).completeScan_takesEstimate f smp ord
  have record := (Scanner.readings_fields ((s.elapse dt).completeScan_readings f smp ord)).1
  have valid := s.scanner.complete_valid f smp
  rw [State.elapse_scanner] at est quiet first record
  rw [State.elapse_est] at est quiet first
  generalize (s.elapse dt).completeScan f smp ord = t at *
  rw [(s.scanner.complete_counts f smp).1] at record
  generalize (s.scanner.complete f smp).2 = r at *
  refine ⟨t, r, runs, record, fun v0 v1 i0 i1 => ?_, fun fault => ?_, fun sound lost start => ?_, fun fine sound => ?_⟩
  · have hv := readVoltage_of_range smp.vbs v0 (by omega)
    have hi : readCurrent smp.shunt = smp.shunt := by rw [readCurrent_eq]; omega
    obtain ⟨fault, lost, voltage, current⟩ := valid (by rw [voltageValid_eq, hv]; simp; omega)
      (by rw [currentValid_eq, hi]; simp; omega)
    exact ⟨fault, lost, by rw [voltage, hv], by rw [current, hi]⟩
  · obtain ⟨formed, none⟩ := s.est.complete_faulted r (r.cls_faulted fault)
    exact ⟨quiet none, est.trans formed⟩
  · obtain ⟨formed, none⟩ := s.est.complete_blind r (r.cls_blind sound lost) start
    exact ⟨quiet none, est.trans formed⟩
  · have taken := s.est.complete_sound r (r.cls_sound fine sound)
    rw [taken] at est first
    intro ms k window average drop rounded comp found atRest restDue filling fullTimer fullDue start seeded q0 q1 q2
    refine ⟨first, fun given => ?_⟩
    have sampled : { s.est with window := window, averaged := average, compensated := comp } = s.est.sample r := by
      simp only [Estimator.sample, joinWindow_eq _ _ hw, averageOf, compensate_eq, roundAway_thousand]
      rfl
    rw [est, Estimator.take_est s.est _ r _ sampled, Estimator.sixth_eq _ r _ (res * s.est.battery.full / 1000)]
    · have hms : r.power.periodMs = ms := PowerState.periodMs_eq r.power
      simp only [integrate_eq, PowerState.factor_cast, hms, Estimator.fullDue, Estimator.restDue, Estimator.fullTime,
        Estimator.fullCondition_eq, Estimator.atRest]
      rfl
    · intro valid
      obtain ⟨low, high, segment⟩ := given valid
      simp only [Estimator.curveQ]
      rw [curveReserve_eq _ _ res low high segment]

end Sys2Proof.Machine
end

section
/-! PROOFS. The writes to BATTERY and to CURVE, and SET_CHARGE. -/

namespace Sys2Proof.Machine

/-! ### A request of the INSTALLER group that is granted (R156) -/

theorem State.whenInstaller_granted (s : State) (a : Answer) (install : s.power.install.deb = true)
    (idle : s.isSaving = false) : s.whenInstaller a = a := by
  simp [State.whenInstaller, State.whenIdle, install, idle]

theorem clampedIf_eq (p : Prop) [Decidable p] : clampedIf (decide ¬p) = if p then .ok else .clamped := by
  by_cases h : p <;> simp [clampedIf, h]

/-! ### BATTERY (R35) -/

/-- The characters of seven settings of two characters each are read as those settings (R35, R150). -/
theorem parseBattery_field (w : BatterySettings) (h1 : w.capacity < 65536) (h2 : w.resistance < 65536)
    (h3 : w.restCurrent < 65536) (h4 : w.restTime < 65536) (h5 : w.fullVoltage < 65536) (h6 : w.tailCurrent < 65536)
    (h7 : w.fullHold < 65536) : parseBattery (w.field.map BitVec.toNat) = some w := by
  simp [BatterySettings.field, parseBattery, be16_split, *]

/-- New battery settings, with Q rescaled and the reserve formed again on a change of capacity (R36, R37). -/
theorem Estimator.setBattery_eq (e : Estimator) (b : BatterySettings) : e.setBattery b =
    if b.capacity = e.battery.capacity then { e with battery := b }
    else { e with
      battery := b
      q := e.q * b.full / e.battery.full
      reserve := reserveOf b.full (e.q * b.full / e.battery.full) } := by
  simp only [Estimator.setBattery, Estimator.reform]

/-- Settles O33: the characters are read as the settings written, which are clamped and taken by `Estimator.setBattery`. -/
theorem batteryWriteRescalesCharge : Obligations.BatteryWriteRescalesCharge := by
  intro dt tag s w hears install idle h1 h2 h3 h4 h5 h6 h7
  have answer : ansWriteBattery (w.field.map BitVec.toNat) (s.taken dt) =
      State.accept { s.taken dt with est := s.est.setBattery w.clamp } (clampedIf (decide ¬w.clamp = w)) w.clamp.field := by
    simp only [ansWriteBattery, parseBattery_field w h1 h2 h3 h4 h5 h6 h7]
    rw [State.whenInstaller_granted _ _ (by simpa using install) (by simpa using idle), State.taken_est]
  have runs := State.request_answered s dt 0x31 tag w.field ansWriteBattery hears (by decide) answer
  rw [clampedIf_eq, Estimator.setBattery_eq] at runs
  exact runs

/-! ### CURVE (R33) -/

/-- The characters of points are read as those points (R33, R150). -/
theorem parsePoints_field (pts : List CurvePoint) (h : ∀ p ∈ pts, p.mv < 65536 ∧ p.reserve < 65536) :
    parsePoints ((pts.flatMap CurvePoint.field).map BitVec.toNat) = some pts := by
  induction pts with
  | nil => rfl
  | cons p pts ih =>
    obtain ⟨mv, reserve⟩ := h p List.mem_cons_self
    have rest := ih fun x hx => h x (List.mem_cons_of_mem _ hx)
    simp [CurvePoint.field, parsePoints, be16_split, mv, reserve] at rest ⊢
    simp [rest]

/-- Settles O36: the characters are read as the points written, of which those up to index 15 are clamped and stored, and the
validity is formed again. -/
theorem curveWriteStoresPoints : Obligations.CurveWriteStoresPoints := by
  intro dt tag start s pts hears install idle some_points few range kept
  have stored : (pts.take (16 - start.toNat)).map CurvePoint.clamp = kept := rfl
  have answer : ansWriteCurve ((start :: pts.flatMap CurvePoint.field).map BitVec.toNat) (s.taken dt) =
      State.accept { s.taken dt with est := s.est.setCurve (curveWith s.est.curve start.toNat kept) }
        (clampedIf (decide ¬kept = pts)) (u8 start.toNat ++ u8 kept.length ++ kept.flatMap CurvePoint.field) := by
    simp only [ansWriteCurve, List.map_cons, parsePoints_field pts range, stored]
    rw [if_neg (by omega), State.whenInstaller_granted _ _ (by simpa using install) (by simpa using idle), State.taken_est]
  have runs := State.request_answered s dt 0x31 tag _ ansWriteCurve hears (by decide) answer
  rw [clampedIf_eq] at runs
  refine ⟨_, ?_, fun k => curveWith_get s.est.curve start.toNat kept k⟩
  rw [← curveIsValid_eq, show [start] = u8 start.toNat by simp [u8]]
  exact runs

/-! ### SET_CHARGE (R38) -/

theorem State.setCharge_start (s : State) (q : Nat) (clamped : Bool) (install : s.power.install.deb = true)
    (idle : s.isSaving = false) (start : s.est.st = .start) : s.setCharge q clamped = s.refuse .notApplicable := by
  rw [State.setCharge, State.whenInstaller_granted _ _ install idle, if_pos start]

theorem State.setCharge_past (s : State) (q : Nat) (clamped : Bool) (install : s.power.install.deb = true)
    (idle : s.isSaving = false) (past : s.est.st ≠ .start) : s.setCharge q clamped =
      State.accept
        { s with est := { s.est with q := q, unconfirmed := false, reserve := reserveOf s.est.battery.full q } }
        (clampedIf clamped) (u32 q ++ u16 (reserveOf s.est.battery.full q)) := by
  rw [State.setCharge, State.whenInstaller_granted _ _ install idle, if_neg past]
  simp only [Estimator.setCharge, Estimator.reform]

/-- Settles O41: both selectors set Q by `State.setCharge`, which START refuses. -/
theorem setChargeSetsCharge : Obligations.SetChargeSetsCharge := by
  intro dt tag hi lo s hears install idle u full v set
  have granted : u.power.install.deb = true ∧ u.isSaving = false := by simp [u, install, idle]
  have clamped : clampNat 0 1000 (be16 hi.toNat lo.toNat) = v := by simp only [clampNat, v]; omega
  have status : clampedIf (decide (v ≠ be16 hi.toNat lo.toNat)) =
      if be16 hi.toNat lo.toNat ≤ 1000 then .ok else .clamped := by
    rw [clampedIf_eq]; exact if_congr (by simp only [v]; omega) rfl rfl
  have reserve (a : Answer) (h : u.setCharge (v * full / 1000) (decide (v ≠ be16 hi.toNat lo.toNat)) = a) :=
    State.request_answered s dt 0x35 tag [hi, lo] ansSetChargeReserve hears (by decide)
      (a := a) (by simp only [ansSetChargeReserve, List.map_cons, List.map_nil, clamped]; exact h)
  have whole (a : Answer) (h : u.setCharge full false = a) :=
    State.request_answered s dt 0x35 tag [hi, lo] ansSetChargeFull hears (by decide)
      (a := a) (by simp only [ansSetChargeFull, List.map_cons, List.map_nil]; exact h)
  refine ⟨fun start => ⟨?_, ?_⟩, fun past => ⟨?_, ?_⟩⟩
  · exact reserve _ (u.setCharge_start _ _ granted.1 granted.2 start)
  · exact whole _ (u.setCharge_start _ _ granted.1 granted.2 start)
  · rw [← status]
    exact reserve _ (u.setCharge_past _ _ granted.1 granted.2 past)
  · exact whole _ (u.setCharge_past _ _ granted.1 granted.2 past)

end Sys2Proof.Machine
end

section
/-! PROOFS. The reset state meets every law. -/

namespace Sys2Proof.Machine

/-- Every record of the reset state is sound: it is CLEAR, its measure is on and no source is present (R44, R64). -/
theorem State.reset_recordLaw (k : Fin 5) : State.reset.tiers.recs[k].Law State.reset.sourcePresent := by
  have on : factoryTiers[k].measure ≠ .off := by revert k; decide
  have counts : factoryTiers[k].confirm ≤ 255 ∧ factoryTiers[k].release ≤ 255 := by revert k; decide
  rw [State.reset_tiers]
  refine ⟨?_, ?_, ?_, ?_, ?_, counts⟩
  · exact ⟨fun clear => (by cases clear), fun off => absurd off on⟩
  · simp [State.sourcePresent, State.reset, Pin.released]
  · simp
  · simp
  · simp [TierRecord.calls]

theorem State.reset_tierLaw : State.reset.TierLaw where
  records := State.reset_recordLaw
  cutoff := by rw [show State.reset.tiers.recs[4] = _ from State.reset_tiers 4]; exact ⟨rfl, rfl⟩
  depth := by simp [State.reset, depthOf, TierRecord.calls]

theorem State.reset_estimateLaw : State.reset.EstimateLaw where
  capacity := by decide
  charge := Nat.zero_le _
  reserve := by simp [State.reset, reserveOf]
  compensated := Nat.zero_le _
  window := Nat.zero_le _
  points := factoryCurve_reserve
  validity := by decide

/-- No channel of the reset state calls for its output: none has demand ON (R71, R91). -/
theorem State.reset_off (i : Ch) : State.reset.chans[i].out = false ∧ State.reset.chans[i].law = false ∧
    State.reset.chans[i].demand = false ∧ State.reset.chans[i].force = .none ∧ State.reset.chans[i].mark = none ∧
    State.reset.chans[i].prot = .normal ∧ State.reset.chans[i].usage = 0 := by
  rw [State.reset_chans]; simp [Chan.fresh, Chan.law]

theorem State.reset_protectionLaw (i : Ch) : State.reset.chans[i].ProtectionLaw := by
  rw [State.reset_chans]
  exact ⟨by simp [Chan.fresh], Nat.zero_le _, Nat.zero_le _, Nat.zero_le _, (by decide : 3 ≤ 16 ∧ 2 ≤ 7)⟩

/-- No level condition holds in the reset state (R161). -/
theorem State.reset_conditions : State.reset.conditions = 0 := by
  have cutoff : State.reset.cutoffCondition = false := by
    rw [State.cutoffCondition, show State.reset.tiers.recs[4] = _ from State.reset_tiers 4]; rfl
  have latch : State.reset.latchCondition = false := by
    rw [State.latchCondition, List.any_eq_false]
    intro i _
    obtain ⟨_, _, _, _, _, prot, _⟩ := State.reset_off i
    rw [prot]; decide
  rw [State.conditions, cutoff, latch]; rfl

theorem State.reset_levelLaw : State.reset.LevelLaw where
  marked := by rw [State.reset_conditions]; rfl
  latched _ := by rw [State.reset_conditions]; rfl

theorem State.reset_ceilingLaw : State.reset.CeilingLaw where
  tallies k := by rw [State.reset_tally]; exact Nat.zero_le _
  usages i := by obtain ⟨_, _, _, _, _, _, usage⟩ := State.reset_off i; rw [usage]; exact Nat.zero_le _
  link := by decide
  erases := Nat.zero_le _
  scans := Nat.zero_le _

theorem State.reset_orderLaw : State.reset.OrderLaw := by unfold State.OrderLaw; decide

theorem State.reset_holdLaw : State.reset.HoldLaw where
  few := Nat.zero_le _
  once := List.nodup_nil
  ordered := .nil
  past _ held := by cases held
  loads _ held := by cases held

theorem State.reset_markLaw : State.reset.MarkLaw := fun i marked => by
  obtain ⟨_, _, _, _, mark, _⟩ := State.reset_off i
  rw [mark] at marked; cases marked

theorem State.reset_forceLaw : State.reset.ForceLaw := fun i forced => by
  obtain ⟨_, _, _, force, _⟩ := State.reset_off i
  exact absurd force forced

theorem State.reset_outputLaw : State.reset.OutputLaw := fun i => by
  obtain ⟨out, law, _⟩ := State.reset_off i
  rw [out, law]; rfl

theorem State.reset_alertLaw : State.reset.AlertLaw := by unfold State.AlertLaw; decide

theorem State.reset_markedLaw : State.reset.MarkedLaw where
  settle _ _ i _ on := by
    obtain ⟨_, _, demand, _⟩ := State.reset_off i
    rw [demand] at on; cases on
  cutoff _ deep := by cases deep

theorem State.reset_storeLaw : State.reset.StoreLaw where
  invalid _ := rfl
  idle reset := by cases reset

/-- Settles O3: no channel of the reset state has demand ON, a mark, a force or a trip (`State.reset_off`), no level condition
holds, and the laws of the other blocks hold of its values. -/
theorem resetStateMeetsEveryLaw : Obligations.ResetStateMeetsEveryLaw :=
  ⟨State.reset_orderLaw, State.reset_tierLaw, State.reset_estimateLaw, State.reset_markLaw, State.reset_holdLaw,
    State.reset_forceLaw, State.reset_outputLaw, State.reset_alertLaw, State.reset_levelLaw, State.reset_ceilingLaw,
    State.reset_protectionLaw, State.reset_markedLaw, State.reset_storeLaw⟩

end Sys2Proof.Machine
end

section
/-! PROOFS. The last character of a frame does what the command of its KIND does. -/

namespace Sys2Proof.Machine

/-! ### A frame whose CRC matches (R151, R153) -/

/-- The part with the noise of a character counted, as the request of its frame finds it (R147; notes/assumptions/27.md). -/
def State.noted (s : State) (c : CharSamples) : State :=
  { s with link := { s.link with counts := { s.link.counts with
      noise := if s.link.charNoise || noisy c then min 65535 (s.link.counts.noise + 1) else s.link.counts.noise } } }

theorem State.noted_hears {s : State} (h : s.Hears) (c : CharSamples) : (s.noted c).Hears :=
  ⟨h.awake, h.receiving, h.staying⟩

/-- The frame in the buffer, completed by the character `d`, carries a request of a KIND (R150, R151). -/
def State.Completes (s : State) (a tag d kind : Byte) (body : List Byte) : Prop :=
  body.length ≤ 56 ∧ s.link.buffer ++ [d] = [a, BitVec.ofNat 8 (body.length + 2), kind, tag] ++ body ++
    u16 (crc16 ([a, BitVec.ofNat 8 (body.length + 2), kind, tag] ++ body)).toNat

/-- The data character `d` ends with its samples `c`, in COLLECT and in a part that hears requests (R147, R149). -/
structure State.Collects (s : State) (dt : Nat) (d : Byte) (c : CharSamples) : Prop where
  hears : s.Hears
  collect : s.link.rx = .collect
  ends : ∃ fall, s.link.charFall = some fall ∧ fall + 10 * s.power.bitTime + s.power.bitTime / 2 ≤ s.now + dt
  bits : ∀ k : Fin 8, majority c.data[k] = d[k]
  mark : majority c.mark = false
  stop : majority c.stop = true

theorem State.Collects.exec_last {s : State} {dt : Nat} {d : Byte} {c : CharSamples} (h : s.Collects dt d c) :
    exec (.characterTaken dt c) s = .next ((s.received dt c).data d.toNat) := by
  obtain ⟨fall, charFall, due⟩ := h.ends
  exact exec_data dt fall d c s h.hears.awake h.collect charFall due h.bits h.mark h.stop

/-- The last character of a frame brings its request to the Request Handler (R153, R156). -/
theorem State.Collects.exec_frame {s : State} {dt : Nat} {a tag d kind : Byte} {c : CharSamples} {body : List Byte}
    (h : s.Collects dt d c) (whole : s.Completes a tag d kind body) : exec (.characterTaken dt c) s =
      (s.noted c).request dt kind.toNat ⟨decide (a = 0), tag, body⟩ (answerKind kind.toNat) := by
  obtain ⟨short, buffer⟩ := whole
  rw [State.request_eq _ _ _ _ _ (State.noted_hears h.hears c), h.exec_last,
    State.data_frame (s.received dt c) a kind tag d body short buffer, State.received_handle]
  rfl

/-! ### The requests of the KINDs, sections and selectors (R157, R171) -/

/-- Two payloads that two handlers answer alike make of the part the same. -/
theorem State.request_congr (s : State) (dt kind : Nat) (b : Bool) (tag : Byte) {p q : List Byte}
    {f g : List Nat → State → Answer} (h : ∀ u, f (p.map BitVec.toNat) u = g (q.map BitVec.toNat) u) :
    s.request dt kind ⟨b, tag, p⟩ f = s.request dt kind ⟨b, tag, q⟩ g := by
  simp only [State.request, State.handle, h]

theorem ansSetCharge_reserve (p : List Nat) (s : State) : ansSetCharge (0 :: p) s = ansSetChargeReserve p s := by
  match p with
  | [] | [_] | [_, _] | _ :: _ :: _ :: _ => rfl

theorem ansSetCharge_full (p : List Nat) (s : State) : ansSetCharge (1 :: p) s = ansSetChargeFull p s := by
  match p with
  | [] | [_] | [_, _] | _ :: _ :: _ :: _ => rfl

theorem ansSetCharge_length (p : List Nat) (s : State) (h : p.length ≠ 3) : ansSetCharge p s = s.refuse .badLength := by
  unfold ansSetCharge; split
  · exact absurd rfl h
  · rfl

theorem ansSetCharge_selector (sel hi lo : Nat) (s : State) (h : 2 ≤ sel) :
    ansSetCharge [sel, hi, lo] s = s.refuse .badValue := by
  match sel, h with
  | _ + 2, _ => rfl

/-- The sections that PROFILE_WRITE writes (R171). -/
def writtenSections : List Nat := [1, 2, 3, 5, 6, 7, 8, 9]

theorem ansProfileWrite_section (sec : Nat) (p : List Nat) (s : State) (h : sec ∉ writtenSections) :
    ansProfileWrite (sec :: p) s = s.refuse .badValue := by
  unfold ansProfileWrite; dsimp only; split
  case h_9 => rfl
  all_goals exact absurd (by decide) h

/-- The KINDs of the requests (R157). -/
def requestKinds : List Nat := [0x01, 0x02, 0x03, 0x04, 0x05, 0x06, 0x10, 0x11, 0x12, 0x13, 0x14, 0x15,
  0x20, 0x21, 0x22, 0x23, 0x30, 0x31, 0x32, 0x33, 0x34, 0x35, 0x40, 0x41]

theorem answerKind_unlisted (kind : Nat) (p : List Nat) (s : State) (h : kind ∉ requestKinds) :
    answerKind kind p s = s.refuse .badKind := by
  unfold answerKind; split
  case h_25 => rfl
  all_goals exact absurd (by decide) h

/-- A KIND that is not listed only counts as a good frame when it is broadcast, and is answered BAD_KIND otherwise
(R153, R156). -/
theorem State.request_unlisted {s : State} (dt kind : Nat) (a tag : Byte) (p : List Byte) (h : s.Hears)
    (unlisted : kind ∉ requestKinds) : s.request dt kind ⟨decide (a = 0), tag, p⟩ (answerKind kind) =
      .next (if a = 0 then s.taken dt
        else ((s.taken dt).refuse .badKind).prepare kind tag false) := by
  have silent : takesBroadcast kind = false ∧ kind ≠ 0x41 := by
    simp only [requestKinds, List.mem_cons, List.not_mem_nil, not_or] at unlisted
    simp [takesBroadcast, unlisted]
  rw [State.request_eq _ _ _ _ _ h, State.handle]
  by_cases broadcast : a = 0
  · rw [if_pos broadcast, decide_eq_true broadcast]; simp [silent, State.taken]
  · rw [if_neg broadcast, decide_eq_false broadcast]
    simp [silent, answerKind_unlisted _ _ _ unlisted, State.taken]

/-! ### A frame whose CRC does not match (R152) -/

/-- A frame complete by its LEN whose CRC does not match is abandoned and counted (R151, R152, R155). -/
theorem State.data_mismatch (s : State) (d len : Byte) (hlen : s.link.buffer[1]? = some len) (least : 2 ≤ len.toNat)
    (whole : s.link.buffer.length + 1 = len.toNat + 4)
    (wrong : (s.link.buffer ++ [d]).drop (len.toNat + 2) ≠
      u16 (crc16 ((s.link.buffer ++ [d]).take (len.toNat + 2))).toNat) :
    s.data d.toNat = s.onLink fun l => (l.count fun c => { c with crc := bump c.crc }).abandon := by
  have appended : s.link.buffer ++ [BitVec.ofNat 8 d.toNat] = s.link.buffer ++ [d] := by simp
  have second : ((s.link.buffer ++ [d])[1]?.map BitVec.toNat).getD 0 = len.toNat := by
    rw [List.getElem?_append_left (by omega), hlen]; rfl
  have length : (s.link.buffer ++ [d]).length = len.toNat + 4 := by simpa using whole
  have mismatch : crcMatches (s.link.buffer ++ [d]) = false := by
    simp only [crcMatches, length]
    rw [show len.toNat + 4 - 2 = len.toNat + 2 by omega]
    exact decide_eq_false wrong
  simp only [State.data, appended, second]
  rw [if_neg (by omega), if_pos length, mismatch]
  rfl

/-- Settles O47: the last character of a frame brings its request to the Request Handler (`State.Collects.exec_frame`), as
the command of its KIND does; and a frame whose CRC does not match is abandoned (`State.data_mismatch`). -/
theorem aFrameOnTheLineIsItsCommand : Obligations.AFrameOnTheLineIsItsCommand := by
  intro dt fall a tag d payload c s hears collect charFall due bits mark stop u carries r
  have collects : s.Collects dt d c := ⟨hears, collect, ⟨fall, charFall, due⟩, bits, mark, stop⟩
  have heard : u.Hears := State.noted_hears hears c
  have frame {kind : Byte} {body : List Byte} (h : carries kind body) : exec (.characterTaken dt c) s =
      u.request dt kind.toNat ⟨decide (a = 0), tag, body⟩ (answerKind kind.toNat) := collects.exec_frame h
  have answered {kind : Byte} {body : List Byte} (addressed : a ≠ 0) (h : carries kind body) (below : kind.toNat < 0x41)
      {x : Answer} (hx : answerKind kind.toNat (body.map BitVec.toNat) (u.taken dt) = x) :
      exec (.characterTaken dt c) s = .next (x.state.answered kind.toNat tag x.status x.payload) := by
    rw [frame h, decide_eq_false addressed]
    exact State.request_answered u dt _ tag body _ heard below hx
  refine ⟨fun x hx h => ?_, fun x hx h => ?_, fun h => ?_, fun h => ?_, fun kind h unlisted => ?_,
    fun sec addressed h unwritten => ?_, fun addressed h => ?_, fun body addressed h other => ?_,
    fun sel hi lo addressed h other => ?_, fun len hlen least whole wrong => ?_⟩
  · rw [frame h]; fin_cases hx <;> rfl
  · rw [frame h]; fin_cases hx <;> exact u.request_congr dt 0x31 _ tag fun _ => rfl
  · rw [frame h]; exact u.request_congr dt 0x35 _ tag fun _ => ansSetCharge_reserve _ _
  · rw [frame h]; exact u.request_congr dt 0x35 _ tag fun _ => ansSetCharge_full _ _
  · rw [frame h, State.request_unlisted dt _ a tag payload heard unlisted]; rfl
  · exact answered addressed h (by decide) (ansProfileWrite_section _ _ _ unwritten)
  · exact answered addressed h (by decide) rfl
  · exact answered addressed h (by decide) (ansSetCharge_length _ _ (by simpa using other))
  · exact answered addressed h (by decide) (ansSetCharge_selector _ _ _ _ other)
  · rw [collects.exec_last, State.data_mismatch (s.received dt c) d len hlen least whole wrong]; rfl

end Sys2Proof.Machine
end

section
/-! PROOFS. The clamps of a tier record. -/

namespace Sys2Proof.Machine

theorem clampNat_eq_min_max (lo hi n : Nat) (h : lo ≤ hi) : clampNat lo hi n = min hi (max lo n) := by
  simp only [clampNat]; omega

/-- A count character is stored as it stands, but for 0, which becomes 1 (R46). -/
theorem clampNat_count (n : Nat) (h : n < 256) : clampNat 1 255 n = if n = 0 then 1 else n := by
  simp only [clampNat]; split <;> omega

/-- The levels of R46: both clamped to the range of the measure, and pushed apart where the rising level lies less than the gap
above the falling one. -/
theorem clampLevels_eq (m : Measure) (falling rising : Nat) : clampLevels m falling rising =
    let f := min m.top (max m.bottom falling)
    let r := min m.top (max m.bottom rising)
    (if m ≠ .off ∧ r < f + m.gap ∧ m.top < f + m.gap then m.top - m.gap else f,
      if m ≠ .off ∧ r < f + m.gap then min m.top (f + m.gap) else r) := by
  have range : m.bottom ≤ m.top := by cases m <;> decide
  have pushed (f r : Nat) : (if r < f + m.gap then if m.top < f + m.gap then (m.top - m.gap, m.top) else (f, f + m.gap)
      else (f, r)) = (if r < f + m.gap ∧ m.top < f + m.gap then m.top - m.gap else f,
        if r < f + m.gap then min m.top (f + m.gap) else r) := by
    split_ifs <;> simp <;> omega
  simp only [clampLevels, clampNat_eq_min_max _ _ _ range]
  cases m
  case off => simp
  all_goals rw [pushed]; simp

/-- Settles O60: the counts by `clampNat_count`, and the levels by `clampLevels_eq` with the range and the gap of each measure;
the examples are evaluated. -/
theorem aTierRecordIsClampedInOrder : Obligations.ATierRecordIsClampedInOrder := by
  refine ⟨fun t confirm release => ?_, fun conf rel sup => by simp [TierSettings.clamp]; decide⟩
  have top : (if t.measure = .reserve then 1000 else 32000) = t.measure.top := by cases t.measure <;> rfl
  have bottom : (if t.measure = .voltage then 8000 else 0) = t.measure.bottom := by cases t.measure <;> rfl
  have gap : (if t.measure = .voltage then 50 else if t.measure = .reserve then 10 else 0) = t.measure.gap := by
    cases t.measure <;> rfl
  simp only [top, bottom, gap, TierSettings.clamp, clampLevels_eq, clampNat_count, confirm, release]

end Sys2Proof.Machine
end

section
/-! PROOFS. The evaluation table of a record. -/

namespace Sys2Proof.Machine

/-! ### The evaluation table (R48) -/

/-- A record enters a call for shedding, or leaves one, between two standings (R61, R62). -/
def TierRecord.enters (r r' : TierRecord) : Bool := !r.calls && r'.calls
def TierRecord.leaves (r r' : TierRecord) : Bool := r.calls && !r'.calls

/-- What an evaluation reports is what the record's standings before and after it show (R49). -/
theorem TierRecord.evaluate_move (r : TierRecord) (x : Nat) (bypass : Bool) : (r.evaluate x bypass).2 =
    { pending := decide (r.st = .clear ∧ (r.evaluate x bypass).1.st ≠ .clear)
      active := r.enters (r.evaluate x bypass).1
      released := r.leaves (r.evaluate x bypass).1 } := by
  cases st : r.st with
  | disabled | suppressed => simp [TierRecord.evaluate, st, Move.quiet, TierRecord.enters, TierRecord.leaves]
  | clear | pending =>
    simp only [TierRecord.evaluate, st]
    split_ifs <;> simp [Move.quiet, TierRecord.enters, TierRecord.leaves, TierRecord.calls, TierRecord.enter,
      TierRecord.go, st]
  | active | releasing =>
    simp only [TierRecord.evaluate, st]
    split_ifs <;> simp [Move.quiet, TierRecord.enters, TierRecord.leaves, TierRecord.calls, TierRecord.go, st]

section
variable (r : TierRecord) (x : Nat) (bypass : Bool)

theorem TierRecord.evaluate_stands (h : r.st = .disabled ∨ r.st = .suppressed) : (r.evaluate x bypass).1 = r := by
  rcases h with st | st <;> simp only [TierRecord.evaluate, st]

theorem TierRecord.evaluate_clear (st : r.st = .clear) : (r.evaluate x bypass).1 =
    if x ≤ r.cfg.falling then if bypass ∨ r.cfg.confirm ≤ 1 then r.enter x else r.go .pending 1 else r := by
  simp only [TierRecord.evaluate, st]; split_ifs <;> rfl

theorem TierRecord.evaluate_pending (st : r.st = .pending) : (r.evaluate x bypass).1 =
    if x ≤ r.cfg.falling then
      if bypass ∨ r.cfg.confirm ≤ r.streak + 1 then r.enter x else r.go .pending (r.streak + 1)
    else r.go .clear 0 := by
  simp only [TierRecord.evaluate, st]; split_ifs <;> rfl

theorem TierRecord.evaluate_active (st : r.st = .active) : (r.evaluate x bypass).1 =
    if r.cfg.rising < x then if r.cfg.release ≤ 1 then r.go .clear 0 else r.go .releasing 1 else r := by
  simp only [TierRecord.evaluate, st]; split_ifs <;> rfl

theorem TierRecord.evaluate_releasing (st : r.st = .releasing) : (r.evaluate x bypass).1 =
    if r.cfg.rising < x then
      if r.cfg.release ≤ r.streak + 1 then r.go .clear 0 else r.go .releasing (r.streak + 1)
    else r.go .active 0 := by
  simp only [TierRecord.evaluate, st]; split_ifs <;> rfl

end

/-- A record of a DOZE scan at or below its falling level enters ACTIVE from CLEAR or PENDING at once (R57). -/
theorem TierRecord.evaluate_bypass (r : TierRecord) (x : Nat) (low : x ≤ r.cfg.falling)
    (waits : r.st = .clear ∨ r.st = .pending) : (r.evaluate x true).1 = r.enter x := by
  rcases waits with st | st
  · simp [r.evaluate_clear x true st, low]
  · simp [r.evaluate_pending x true st, low]

/-- In every other standing the bypass bears on nothing (R57). -/
theorem TierRecord.evaluate_bypass_idle (r : TierRecord) (x : Nat)
    (h : ¬(x ≤ r.cfg.falling ∧ (r.st = .clear ∨ r.st = .pending))) :
    (r.evaluate x true).1 = (r.evaluate x false).1 := by
  cases st : r.st with
  | disabled => rw [r.evaluate_stands x _ (.inl st), r.evaluate_stands x _ (.inl st)]
  | suppressed => rw [r.evaluate_stands x _ (.inr st), r.evaluate_stands x _ (.inr st)]
  | clear =>
    have high : ¬x ≤ r.cfg.falling := fun low => h ⟨low, .inl st⟩
    simp only [r.evaluate_clear x _ st, high, if_false]
  | pending =>
    have high : ¬x ≤ r.cfg.falling := fun low => h ⟨low, .inr st⟩
    simp only [r.evaluate_pending x _ st, high, if_false]
  | active => rw [r.evaluate_active x _ st, r.evaluate_active x _ st]
  | releasing => rw [r.evaluate_releasing x _ st, r.evaluate_releasing x _ st]

/-- A record whose streak count lies in the range of its state (R48). -/
def TierRecord.Counted (r : TierRecord) : Prop :=
  if r.st = .pending ∨ r.st = .releasing then 1 ≤ r.streak ∧ r.streak ≤ 254 else r.streak = 0

theorem TierRecord.enter_counted (r : TierRecord) (x : Nat) : (r.enter x).Counted := by
  simp [TierRecord.Counted, TierRecord.enter]

theorem TierRecord.go_resting (r : TierRecord) (st : TierState) (h : ¬(st = .pending ∨ st = .releasing)) :
    (r.go st 0).Counted := by
  simp [TierRecord.Counted, TierRecord.go, h]

theorem TierRecord.go_running (r : TierRecord) (st : TierState) (n : Nat) (h : st = .pending ∨ st = .releasing)
    (range : 1 ≤ n ∧ n ≤ 254) : (r.go st n).Counted := by
  simp [TierRecord.Counted, TierRecord.go, h, range]

/-- The streak count stays in the range of its state (R48). -/
theorem TierRecord.Counted.evaluate {r : TierRecord} (h : r.Counted) (x : Nat) (bypass : Bool)
    (confirm : r.cfg.confirm ≤ 255) (release : r.cfg.release ≤ 255) : (r.evaluate x bypass).1.Counted := by
  cases st : r.st with
  | disabled => rw [r.evaluate_stands x _ (.inl st)]; exact h
  | suppressed => rw [r.evaluate_stands x _ (.inr st)]; exact h
  | clear =>
    rw [r.evaluate_clear x _ st]; split_ifs
    exacts [r.enter_counted x, r.go_running _ _ (.inl rfl) (by decide), h]
  | pending =>
    rw [r.evaluate_pending x _ st]; split_ifs with _ early
    exacts [r.enter_counted x, r.go_running _ _ (.inl rfl) (by omega), r.go_resting _ (by decide)]
  | active =>
    rw [r.evaluate_active x _ st]; split_ifs
    exacts [r.go_resting _ (by decide), r.go_running _ _ (.inr rfl) (by decide), h]
  | releasing =>
    rw [r.evaluate_releasing x _ st]; split_ifs with _ early
    exacts [r.go_resting _ (by decide), r.go_running _ _ (.inr rfl) (by omega), r.go_resting _ (by decide)]

theorem TierRecord.calls_iff (r : TierRecord) : r.calls = true ↔ r.st = .active ∨ r.st = .releasing := by
  simp [TierRecord.calls]

/-- A record that comes to call for shedding has entered ACTIVE (R48). -/
theorem TierRecord.evaluate_entry (r : TierRecord) (x : Nat) (bypass : Bool) (before : ¬(r.st = .active ∨ r.st = .releasing))
    (after : (r.evaluate x bypass).1.st = .active ∨ (r.evaluate x bypass).1.st = .releasing) :
    (r.evaluate x bypass).1 = r.enter x := by
  cases st : r.st with
  | disabled => rw [r.evaluate_stands x _ (.inl st)] at after; exact absurd after before
  | suppressed => rw [r.evaluate_stands x _ (.inr st)] at after; exact absurd after before
  | clear =>
    rw [r.evaluate_clear x _ st] at after ⊢
    split_ifs at after ⊢
    exacts [rfl, by simp [TierRecord.go] at after, absurd after before]
  | pending =>
    rw [r.evaluate_pending x _ st] at after ⊢
    split_ifs at after ⊢
    exacts [rfl, by simp [TierRecord.go] at after, by simp [TierRecord.go] at after]
  | active => exact absurd (.inl st) before
  | releasing => exact absurd (.inr st) before

/-- A record that calls for shedding keeps its confirming value (R50). -/
theorem TierRecord.evaluate_conf_called (r : TierRecord) (x : Nat) (bypass : Bool)
    (h : r.st = .active ∨ r.st = .releasing) : (r.evaluate x bypass).1.conf = r.conf := by
  rcases h with st | st
  · rw [r.evaluate_active x _ st]; split_ifs <;> rfl
  · rw [r.evaluate_releasing x _ st]; split_ifs <;> rfl

/-- An evaluation stores a confirming value at an entry to ACTIVE alone (R50). -/
theorem TierRecord.evaluate_conf (r : TierRecord) (x : Nat) (bypass : Bool)
    (h : (r.evaluate x bypass).1.st ≠ .active ∨ r.st = .active ∨ r.st = .releasing) :
    (r.evaluate x bypass).1.conf = r.conf := by
  rcases h with apart | called
  · rcases r.evaluate_cases x bypass with e | e | ⟨_, _, e⟩
    · rw [e]
    · rw [e] at apart; exact absurd rfl apart
    · rw [e]; rfl
  · exact r.evaluate_conf_called x bypass called

/-- A record that calls for shedding has a confirming value after an evaluation too (R50). -/
theorem TierRecord.evaluate_confirmed (r : TierRecord) (x : Nat) (bypass : Bool)
    (h : r.calls = true → r.conf.isSome = true) :
    (r.evaluate x bypass).1.calls = true → (r.evaluate x bypass).1.conf.isSome = true := by
  intro called
  by_cases before : r.st = .active ∨ r.st = .releasing
  · rw [r.evaluate_conf_called x bypass before]; exact h (r.calls_iff.2 before)
  · rw [r.evaluate_entry x bypass before ((TierRecord.calls_iff _).1 called)]; rfl

/-- An evaluation neither enters nor leaves DISABLED or SUPPRESSED (R48). -/
theorem TierRecord.evaluate_st (r : TierRecord) (x : Nat) (bypass : Bool) :
    ((r.evaluate x bypass).1.st = .disabled ↔ r.st = .disabled) ∧
    ((r.evaluate x bypass).1.st = .suppressed ↔ r.st = .suppressed) := by
  cases st : r.st with
  | disabled => simp [r.evaluate_stands x _ (.inl st), st]
  | suppressed => simp [r.evaluate_stands x _ (.inr st), st]
  | clear => rw [r.evaluate_clear x _ st]; split_ifs <;> simp [TierRecord.enter, TierRecord.go, st]
  | pending => rw [r.evaluate_pending x _ st]; split_ifs <;> simp [TierRecord.enter, TierRecord.go]
  | active => rw [r.evaluate_active x _ st]; split_ifs <;> simp [TierRecord.go, st]
  | releasing => rw [r.evaluate_releasing x _ st]; split_ifs <;> simp [TierRecord.go]

end Sys2Proof.Machine
end

section
/-! PROOFS. What a command can do to the Tier Monitor, said once, and the law that each change keeps. -/

namespace Sys2Proof.Machine

/-! ### The law of one record (R48, R50, R51) -/

/-- All of a record's law but the standing of SUPPRESSED, which rests on SHORE and IGN (R51). -/
structure TierRecord.Sound (r : TierRecord) : Prop where
  disabled : r.st = .disabled ↔ r.cfg.measure = .off
  counted : r.Counted
  confirmed : r.calls = true → r.conf.isSome = true
  counts : r.cfg.confirm ≤ 255 ∧ r.cfg.release ≤ 255

theorem TierRecord.Law.sound {r : TierRecord} {source : Bool} (h : r.Law source) : r.Sound where
  disabled := h.disabled
  counted := by
    unfold TierRecord.Counted; split
    · exact h.running ‹_›
    · exact h.resting ‹_›
  confirmed := h.confirmed
  counts := h.counts

theorem TierRecord.Sound.law {r : TierRecord} {source : Bool} (h : r.Sound)
    (suppressed : r.st = .suppressed ↔ r.cfg.measure ≠ .off ∧ r.cfg.suppress = true ∧ source = true) : r.Law source where
  disabled := h.disabled
  suppressed := suppressed
  running running := by simpa only [TierRecord.Counted, if_pos running] using h.counted
  resting resting := by simpa only [TierRecord.Counted, if_neg resting] using h.counted
  confirmed := h.confirmed
  counts := h.counts

/-- An evaluation keeps the law of a record (R48). -/
theorem TierRecord.Law.evaluate {r : TierRecord} {source : Bool} (h : r.Law source) (x : Nat) (bypass : Bool) :
    (r.evaluate x bypass).1.Law source := by
  obtain ⟨disabled, suppressed⟩ := r.evaluate_st x bypass
  refine TierRecord.Sound.law ⟨?_, ?_, r.evaluate_confirmed x bypass h.confirmed, ?_⟩ ?_
  · rw [disabled, TierRecord.evaluate_cfg]; exact h.disabled
  · exact h.sound.counted.evaluate x bypass h.counts.1 h.counts.2
  · rw [TierRecord.evaluate_cfg]; exact h.counts
  · rw [suppressed, TierRecord.evaluate_cfg]; exact h.suppressed

/-- A record whose suppression has been formed is sound with the sources it was formed on (R51, R52). -/
theorem TierRecord.Sound.suppression {r : TierRecord} (h : r.Sound) (source : Bool) : (r.suppression source).Law source := by
  have moved (st : TierState) (off : r.cfg.measure ≠ .off) (resting : ¬(st = .pending ∨ st = .releasing))
      (idle : st ≠ .disabled ∧ st ≠ .active) : (r.go st 0).Sound :=
    ⟨iff_of_false idle.1 off, r.go_resting st resting, by
      rw [TierRecord.calls_iff]; exact fun called => (called.elim idle.2 (resting ∘ .inr)).elim, h.counts⟩
  unfold TierRecord.suppression
  split_ifs with off on
  · exact h.law (by simp [h.disabled.2 off, off])
  all_goals simp only [Bool.and_eq_true] at on
  · exact h.law (by simp [*])
  · exact (moved .suppressed off (by decide) (by decide)).law (by simp [TierRecord.go, off, on])
  · exact (moved .clear off (by decide) (by decide)).law (by simpa [TierRecord.go, off] using on)
  · exact h.law (by simp [*])

/-- A record that stands afresh is sound (R54, R64). -/
theorem TierRecord.fresh_law (cfg : TierSettings) (source : Bool) (counts : cfg.confirm ≤ 255 ∧ cfg.release ≤ 255) :
    (TierRecord.fresh cfg source).Law source := by
  refine TierRecord.Sound.suppression ⟨?_, ?_, ?_, counts⟩ source
  · by_cases off : cfg.measure = .off <;> simp [off]
  · by_cases off : cfg.measure = .off <;> simp [off, TierRecord.Counted]
  · by_cases off : cfg.measure = .off <;> simp [off, TierRecord.calls]

/-- A write that changes the measure starts the record afresh, and any other writes its settings and forms its suppression
(R53, R54, R55). -/
theorem TierRecord.write_eq (r : TierRecord) (cfg : TierSettings) (source : Bool) : r.write cfg source =
    if cfg.measure = r.cfg.measure then { r with cfg := cfg }.suppression source else TierRecord.fresh cfg source := by
  rw [TierRecord.fresh_eq]; rfl

/-- A write keeps the law of a record (R53, R54). -/
theorem TierRecord.Law.write {r : TierRecord} {source : Bool} (h : r.Law source) (cfg : TierSettings)
    (counts : cfg.confirm ≤ 255 ∧ cfg.release ≤ 255) : (r.write cfg source).Law source := by
  rw [TierRecord.write_eq]
  split_ifs with same
  · have written : ({ r with cfg := cfg } : TierRecord).Sound :=
      ⟨by rw [same]; exact h.disabled, h.sound.counted, h.confirmed, counts⟩
    exact written.suppression source
  · exact TierRecord.fresh_law cfg source counts

/-! ### The records of the Tier Monitor -/

@[simp] theorem TierMonitor.form_recs (t : TierMonitor) : t.form.recs = t.recs := rfl

theorem TierMonitor.evaluate_get (t : TierMonitor) (compensated reserve : Nat) (dozeRecord : Bool) (k : Fin 5) :
    (t.evaluate compensated reserve dozeRecord).1.recs[k] =
      (t.recs[k].evaluate (t.recs[k].measured compensated reserve) (dozeRecord && decide (k = 4))).1 := by
  simp [TierMonitor.evaluate]

theorem TierMonitor.suppression_get (t : TierMonitor) (source : Bool) (k : Fin 5) :
    (t.suppression source).recs[k] = t.recs[k].suppression source := by
  simp [TierMonitor.suppression]

theorem TierMonitor.write_get (t : TierMonitor) (k : Fin 5) (cfg : TierSettings) (source : Bool) (j : Fin 5) :
    (t.write k cfg source).recs[j] = if j = k then t.recs[j].write cfg source else t.recs[j] := by
  by_cases same : j = k
  · simp [TierMonitor.write, same]
  · have apart : k.val ≠ j.val := fun e => same (Fin.ext e.symm)
    simp [TierMonitor.write, same, Vector.getElem_set_ne, apart]

theorem TierMonitor.writeAll_get (t : TierMonitor) (cfgs : Vector TierSettings 5) (source : Bool) (k : Fin 5) :
    (t.writeAll cfgs source).recs[k] = t.recs[k].write cfgs[k] source := by
  simp [TierMonitor.writeAll]

/-! ### The changes of the Tier Monitor (R47, R51, R54, R56, R64) -/

/-- Settings that a record may take: as its section holds them after the clamps, with the cutoff's fixed measure and flag
(R44, R46). -/
def TierSettings.Fits (cfg : TierSettings) (k : Fin 5) : Prop :=
  (cfg.confirm ≤ 255 ∧ cfg.release ≤ 255) ∧ (k = 4 → cfg.measure = .voltage ∧ cfg.suppress = false)

/-- All that a command can make of the Tier Monitor, with SHORE or IGN asserted before and after it: nothing, an evaluation, a
write, the factory section, a change of SHORE or IGN, or the end of a reset. -/
inductive TierMonitor.Becomes (m : TierMonitor) (source : Bool) : TierMonitor → Bool → Prop where
  | kept : m.Becomes source m source
  | evaluated (compensated reserve : Nat) (dozeRecord : Bool) :
      m.Becomes source (m.evaluate compensated reserve dozeRecord).1 source
  | written (k : Fin 5) (cfg : TierSettings) (fits : cfg.Fits k) : m.Becomes source (m.write k cfg source) source
  | defaults : m.Becomes source (m.writeAll factoryProfile.tiers source) source
  | switched (source' : Bool) : m.Becomes source (m.suppression source') source'
  | restarted (p : Profile) (h : p.Loads) (source' : Bool) : m.Becomes source (TierMonitor.fresh p.tiers source') source'

/-- The Tier Monitor is sound while SHORE or IGN stands so (R58). -/
structure TierMonitor.Law (m : TierMonitor) (source : Bool) : Prop where
  records : ∀ k : Fin 5, m.recs[k].Law source
  cutoff : m.recs[4].cfg.measure = .voltage ∧ m.recs[4].cfg.suppress = false
  depth : m.depth = depthOf m.recs

theorem State.tierLaw_iff (s : State) : s.TierLaw ↔ s.tiers.Law s.sourcePresent :=
  ⟨fun h => ⟨h.records, h.cutoff, h.depth⟩, fun h => ⟨h.records, h.cutoff, h.depth⟩⟩

theorem TierSettings.clamp_counts (t : TierSettings) : t.clamp.confirm ≤ 255 ∧ t.clamp.release ≤ 255 :=
  ⟨(clampNat_range 1 255 t.confirm (by decide)).2, (clampNat_range 1 255 t.release (by decide)).2⟩

@[simp] theorem TierSettings.clamp_measure (t : TierSettings) : t.clamp.measure = t.measure := rfl
@[simp] theorem TierSettings.clamp_suppress (t : TierSettings) : t.clamp.suppress = t.suppress := rfl

theorem factoryTiers_fit (k : Fin 5) : factoryProfile.tiers[k].Fits k := by
  unfold TierSettings.Fits; revert k; decide

/-- A reset loads settings that the records may take (R44, R176). -/
theorem Profile.Loads.tiers {p : Profile} (h : p.Loads) (k : Fin 5) : p.tiers[k].Fits k := by
  rcases h with rfl | ⟨q, rfl⟩
  · exact factoryTiers_fit k
  · obtain ⟨tiers, _⟩ := q.taken_fields
    rw [tiers k]
    exact ⟨TierSettings.clamp_counts _, fun cutoff => by simp [cutoff]⟩

namespace TierMonitor.Law

variable {m : TierMonitor} {source : Bool}

theorem evaluated (h : m.Law source) (compensated reserve : Nat) (dozeRecord : Bool) :
    (m.evaluate compensated reserve dozeRecord).1.Law source where
  records k := by rw [TierMonitor.evaluate_get]; exact (h.records k).evaluate _ _
  cutoff := by
    have at4 := m.evaluate_get compensated reserve dozeRecord 4
    rw [show (m.evaluate compensated reserve dozeRecord).1.recs[4] = _ from at4, TierRecord.evaluate_cfg]
    exact h.cutoff
  depth := rfl

theorem written (h : m.Law source) (k : Fin 5) (cfg : TierSettings) (fits : cfg.Fits k) :
    (m.write k cfg source).Law source where
  records j := by
    rw [TierMonitor.write_get]; split
    · exact (h.records j).write cfg fits.1
    · exact h.records j
  cutoff := by
    rw [show (m.write k cfg source).recs[4] = _ from m.write_get k cfg source 4]; split
    · rename_i cutoff; rw [TierRecord.write_cfg]; exact fits.2 cutoff.symm
    · exact h.cutoff
  depth := rfl

theorem writtenAll (h : m.Law source) (cfgs : Vector TierSettings 5) (fits : ∀ k : Fin 5, cfgs[k].Fits k) :
    (m.writeAll cfgs source).Law source where
  records k := by rw [TierMonitor.writeAll_get]; exact (h.records k).write _ (fits k).1
  cutoff := by
    rw [show (m.writeAll cfgs source).recs[4] = _ from m.writeAll_get cfgs source 4, TierRecord.write_cfg]
    exact (fits 4).2 rfl
  depth := rfl

theorem switched (h : m.Law source) (source' : Bool) : (m.suppression source').Law source' where
  records k := by rw [TierMonitor.suppression_get]; exact (h.records k).sound.suppression source'
  cutoff := by
    rw [show (m.suppression source').recs[4] = _ from m.suppression_get source' 4, TierRecord.suppression_cfg]
    exact h.cutoff
  depth := rfl

theorem restarted (p : Profile) (loads : p.Loads) (source' : Bool) : (TierMonitor.fresh p.tiers source').Law source' where
  records k := by rw [TierMonitor.fresh_get]; exact TierRecord.fresh_law _ _ (loads.tiers k).1
  cutoff := by
    rw [show (TierMonitor.fresh p.tiers source').recs[4] = _ from TierMonitor.fresh_get p.tiers source' 4,
      TierRecord.fresh_eq]
    exact (loads.tiers 4).2 rfl
  depth := rfl

/-- The law through every change of the Tier Monitor (R58). -/
theorem becomes (h : m.Law source) {m' : TierMonitor} {source' : Bool} (b : m.Becomes source m' source') :
    m'.Law source' := by
  cases b with
  | kept => exact h
  | evaluated compensated reserve dozeRecord => exact h.evaluated compensated reserve dozeRecord
  | written k cfg fits => exact h.written k cfg fits
  | defaults => exact h.writtenAll _ factoryTiers_fit
  | switched source' => exact h.switched source'
  | restarted p loads source' => exact restarted p loads source'

end TierMonitor.Law

/-! ### The depth (R58) -/

/-- The depth is the number of the highest record that calls for shedding, or 0 (R58). -/
theorem depthOf_highest (recs : Vector TierRecord 5) :
    (∀ k : Fin 5, recs[k].calls = true → k.val + 1 ≤ depthOf recs) ∧
    (depthOf recs = 0 ∨ ∃ k : Fin 5, recs[k].calls = true ∧ depthOf recs = k.val + 1) := by
  unfold depthOf
  split_ifs with h4 h3 h2 h1 h0
  · exact ⟨fun k _ => by omega, .inr ⟨4, h4, rfl⟩⟩
  · exact ⟨fun k hk => by fin_cases k <;> simp_all, .inr ⟨3, h3, rfl⟩⟩
  · exact ⟨fun k hk => by fin_cases k <;> simp_all, .inr ⟨2, h2, rfl⟩⟩
  · exact ⟨fun k hk => by fin_cases k <;> simp_all, .inr ⟨1, h1, rfl⟩⟩
  · exact ⟨fun k hk => by fin_cases k <;> simp_all, .inr ⟨0, h0, rfl⟩⟩
  · exact ⟨fun k hk => by fin_cases k <;> simp_all, .inl rfl⟩

/-- The depth is 5 while the cutoff calls for shedding (R58). -/
theorem depthOf_cutoff (recs : Vector TierRecord 5) (h : recs[4].calls = true) : depthOf recs = 5 := by
  simp [depthOf, h]

end Sys2Proof.Machine
end

section
/-! PROOFS. What a completion leaves alone of the tier notices and of the counts of tier and cutoff entries. -/

namespace Sys2Proof.Machine

/-! ### Counters of other events (R165) -/

/-- Nothing that the counters of one kind of event count has happened: each keeps its value, or a value above the ceiling is
brought to it. -/
def State.Silent (s : State) (kind : EventKind) (t : State) : Prop :=
  ∀ n : Fin 8, s.tally[n].sel.kind = kind →
    t.tally[n] = s.tally[n] ∨ t.tally[n] = { s.tally[n] with value := min Config.totalMax s.tally[n].value }

theorem State.Silent.refl (s : State) (kind : EventKind) : s.Silent kind s := fun _ _ => .inl rfl

theorem State.Silent.trans {s t u : State} {kind : EventKind} (h : s.Silent kind t) (k : t.Silent kind u) :
    s.Silent kind u := by
  intro n selected
  rcases h n selected with e | e <;> rcases k n (by rw [e]; exact selected) with e' | e' <;> rw [e', e]
  · exact .inl rfl
  · exact .inr rfl
  · exact .inr rfl
  · exact .inr (by simp)

theorem Counter.count_other (k : EventKind) (l : List Nat) (c : Counter) (h : c.sel.kind ≠ k) :
    c.count k l = { c with value := min Config.totalMax c.value } := by
  have none : l.filter (c.sel.counts k) = [] := by simp [Selector.counts, h]
  simp [Counter.count, none]

/-- A part whose counters have counted another kind of event is silent. -/
theorem State.Silent.of_count {s t : State} {kind : EventKind} (k : EventKind) (l : List Nat) (h : kind ≠ k)
    (counted : ∀ n : Fin 8, t.tally[n] = s.tally[n].count k l) : s.Silent kind t := fun n selected =>
  .inr (by rw [counted]; exact Counter.count_other k l _ (by rw [selected]; exact h))

theorem State.Silent.of_tally {s t : State} (h : t.tally = s.tally) (kind : EventKind) : s.Silent kind t := fun n _ =>
  .inl (by rw [h])

/-- Kinds of events other than those that the Sequencer and the derivation of the outputs report (R72, R97, R105). -/
def EventKind.Unshed (kind : EventKind) : Prop :=
  kind ≠ .shedAction ∧ kind ≠ .restoreAction ∧ kind ≠ .switchOn

section
variable (s : State) {kind : EventKind} (h : kind.Unshed)
include h

theorem State.markEach_silent (f : Ch → Option Mark) : s.Silent kind (s.markEach f) :=
  .of_count .shedAction (channelNos fun i => (f i).isSome) h.1 fun n => by
    simp only [State.markEach, State.report_get, State.mapChans_tally]

theorem State.derive_silent : s.Silent kind s.derive :=
  .of_count .switchOn (channelNos fun i => s.chans[i].comesOn s.now) h.2.2 fun n => by
    simp only [State.derive, State.report_get]

theorem State.massShed_silent : s.Silent kind s.massShed := by
  unfold State.massShed; split
  · exact (s.markEach_silent h fun j => if s.shedCandidate j then some s.shedMark else none).trans
      (.of_tally (by simp only) kind)
  · exact .refl s kind

theorem State.markSettle_silent : s.Silent kind s.markSettle := by
  unfold State.markSettle; split
  · exact s.markEach_silent h _
  · exact .refl s kind

theorem State.shedStep_silent (i : Ch) : s.Silent kind (s.shedStep i) :=
  (s.markEach_silent h fun j => if j = i then some s.shedMark else none).trans
    (.of_tally (by simp only [State.shedStep]) kind)

theorem State.restoreStep_silent (i : Ch) : s.Silent kind (s.restoreStep i) :=
  .of_count .restoreAction [channelNo i] h.2.1 fun n => by
    simp only [State.restoreStep, State.report_get, State.setChan_tally]

theorem State.takeStep_silent : s.Silent kind s.takeStep := by
  unfold State.takeStep; split
  · exact s.shedStep_silent h _
  · split
    · exact s.restoreStep_silent h _
    · exact .refl s kind

theorem State.reconsider_silent : s.Silent kind s.reconsider :=
  (((s.massShed_silent h).trans (State.markSettle_silent _ h)).trans (State.takeStep_silent _ h)).trans
    (.of_tally (by simp only [State.reconsider]) kind)

theorem State.settleOutputs_silent (n : Nat) : s.Silent kind (s.settleOutputs n) := by
  induction n generalizing s with
  | zero => exact s.derive_silent h
  | succ n ih =>
    unfold State.settleOutputs; split
    · exact .refl s kind
    · exact ((s.derive_silent h).trans (State.reconsider_silent _ h)).trans (ih _)

/-- A reconsideration with the derivations it brings is silent on every other kind of event (R117). -/
theorem State.resolve_silent : s.Silent kind s.resolve :=
  (s.reconsider_silent h).trans (State.settleOutputs_silent _ h _)

theorem State.resolveIf_silent (p : Prop) [Decidable p] : s.Silent kind (if p then s.resolve else s) := by
  split
  · exact s.resolve_silent h
  · exact .refl s kind

end

/-! ### One notice (R161, R162) -/

theorem Notices.edge_latch (n : Notices) (c : NoticeCode) (happens : Bool) :
    (n.edge c happens).latch = if happens then n.latch ||| c.bit else n.latch := by
  unfold Notices.edge; split <;> rfl

@[simp] theorem Notices.edge_ackMark (n : Notices) (c : NoticeCode) (happens : Bool) :
    (n.edge c happens).ackMark = n.ackMark := by
  unfold Notices.edge; split <;> rfl

/-- An edge notice leaves the latch of every other code (R161). -/
theorem Notices.edge_latch_other (n : Notices) (c : NoticeCode) (happens : Bool) (k : Fin 9) (h : c.bit[k] = false) :
    (n.edge c happens).latch[k] = n.latch[k] := by
  have h' : c.bit[k.val] = false := h
  rw [Notices.edge_latch]; split <;> simp [h']

/-- A level notice leaves the latch and the acknowledge mark of every other code (R162). -/
theorem Notices.level_other (n : Notices) (c : NoticeCode) (before after : Bool) (k : Fin 9) (h : c.bit[k] = false) :
    (n.level c before after).latch[k] = n.latch[k] ∧ (n.level c before after).ackMark[k] = n.ackMark[k] := by
  have h' : c.bit[k.val] = false := h
  unfold Notices.level; split_ifs <;> simp [h']

/-! ### The blocks beside the Estimator and the Tier Monitor -/

/-- What every block but the Tier Monitor leaves alone at a completion, beside `State.SparesEstimate`: the notices TIER and
CUTOFF, and the counts of TIER_ENTRY and CUTOFF_ENTRY (R61, R62). -/
structure State.SparesEntries (s t : State) : Prop where
  estimate : s.SparesEstimate t
  tier : t.notices.latch[1] = s.notices.latch[1]
  cutoff : t.notices.latch[2] = s.notices.latch[2]
  mark : t.notices.ackMark[2] = s.notices.ackMark[2]
  tierEntry : s.Silent .tierEntry t
  cutoffEntry : s.Silent .cutoffEntry t

namespace State.SparesEntries

theorem refl (s : State) : s.SparesEntries s := ⟨.refl s, rfl, rfl, rfl, .refl s _, .refl s _⟩

theorem trans {s t u : State} (h : s.SparesEntries t) (k : t.SparesEntries u) : s.SparesEntries u :=
  ⟨h.estimate.trans k.estimate, k.tier.trans h.tier, k.cutoff.trans h.cutoff, k.mark.trans h.mark,
    h.tierEntry.trans k.tierEntry, h.cutoffEntry.trans k.cutoffEntry⟩

/-- A block that touches neither the notices nor the counters spares the entries. -/
theorem of_eq {s t : State} (h : s.SparesEstimate t) (notices : t.notices = s.notices) (tally : t.tally = s.tally) :
    s.SparesEntries t :=
  ⟨h, by rw [notices], by rw [notices], by rw [notices], .of_tally tally _, .of_tally tally _⟩

/-- So does one that touches the notices of other codes alone. -/
theorem of_notices {s t : State} (h : s.SparesEstimate t) (tally : t.tally = s.tally)
    (latch : ∀ k : Fin 9, k = 1 ∨ k = 2 → t.notices.latch[k] = s.notices.latch[k])
    (mark : t.notices.ackMark[(2 : Fin 9)] = s.notices.ackMark[(2 : Fin 9)]) : s.SparesEntries t :=
  ⟨h, latch 1 (.inl rfl), latch 2 (.inr rfl), mark, .of_tally tally _, .of_tally tally _⟩

/-- So does a report of another kind of event. -/
theorem report {s t : State} (h : s.SparesEntries t) (k : EventKind) (l : List Nat)
    (other : k ≠ .tierEntry ∧ k ≠ .cutoffEntry) : s.SparesEntries (t.report k l) :=
  h.trans ⟨⟨by simp, by simp, by simp, by simp⟩, by simp, by simp, by simp,
    .of_count k l other.1.symm fun n => t.report_get k l n, .of_count k l other.2.symm fun n => t.report_get k l n⟩

theorem resolveIf {s t : State} (h : s.SparesEntries t) (p : Prop) [Decidable p] :
    s.SparesEntries (if p then t.resolve else t) := by
  have notices : (if p then t.resolve else t).notices = t.notices := by
    split
    · exact t.resolve_moves.notices
    · rfl
  exact h.trans ⟨(State.SparesEstimate.refl t).resolveIf p, by rw [notices], by rw [notices], by rw [notices],
    t.resolveIf_silent ⟨by decide, by decide, by decide⟩ p, t.resolveIf_silent ⟨by decide, by decide, by decide⟩ p⟩

end State.SparesEntries

theorem State.onFault_sparesEntries (s : State) (b : Bool) : s.SparesEntries (s.onFault b) :=
  (State.SparesEntries.refl s).resolveIf _

theorem State.controlled_sparesEntries (s : State) (r : ScanRecord) : s.SparesEntries (s.controlled r).1 := by
  simp only [State.controlled]
  refine .resolveIf (.report (.report (.report (.of_notices ⟨?_, ?_, ?_, ?_⟩ ?_ ?_ ?_) .trip _ (by decide)) .latch _
    (by decide)) .openLoad _ (by decide)) _
  iterate 5 simp only
  · intro k hk
    rw [(Notices.level_other _ .latch _ _ k (by rcases hk with rfl | rfl <;> decide)).1]
    exact Notices.edge_latch_other _ .trip _ k (by rcases hk with rfl | rfl <;> decide)
  · rw [(Notices.level_other _ .latch _ _ 2 (by decide)).2, Notices.edge_ackMark]

theorem State.beginScan_sparesEntries (s : State) : s.SparesEntries s.beginScan :=
  .of_eq s.beginScan_sparesEstimate (by simp) (by simp)

theorem State.dozeTest_sparesEntries (s : State) : s.SparesEntries s.dozeTest := by
  unfold State.dozeTest; split
  · simp only [State.enterDoze, State.reportIf]
    refine .report ?_ .dozeEntry _ (by decide)
    exact .of_eq ⟨rfl, rfl, rfl, rfl⟩ rfl rfl
  · exact .refl s

theorem State.exitDoze_sparesEntries (s : State) : s.SparesEntries s.exitDoze := by
  simp only [State.exitDoze]; split_ifs
  · refine .trans ?_ (State.beginScan_sparesEntries _)
    exact .of_eq ⟨rfl, rfl, rfl, rfl⟩ rfl rfl
  · exact .of_eq ⟨rfl, rfl, rfl, rfl⟩ rfl rfl
  · exact .refl s

theorem State.concluded_sparesEntries (s : State) (told testFirst : Bool) :
    s.SparesEntries (s.concluded told testFirst) := by
  have left : s.SparesEntries (if told then s.exitDoze else s) := by
    split
    · exact s.exitDoze_sparesEntries
    · exact .refl s
  simp only [State.concluded]
  generalize (if told then s.exitDoze else s) = t at left ⊢
  have tested : s.SparesEntries (if testFirst then t else t.dozeTest) := by
    split
    · exact left
    · exact left.trans t.dozeTest_sparesEntries
  generalize (if testFirst then t else t.dozeTest) = u at tested ⊢
  split
  · exact tested.trans (State.beginScan_sparesEntries _)
  · exact tested

theorem State.scanned_sparesEntries (s : State) (f : Scan) (smp : Samples) : s.SparesEntries (s.scanned f smp) := by
  simp only [State.scanned, State.reportIf]
  refine .report ?_ .senseFaultEntry _ (by decide)
  refine .of_notices ⟨rfl, rfl, rfl, rfl⟩ rfl ?_ ?_
  · intro k hk
    exact (Notices.level_other _ .sense _ _ k (by rcases hk with rfl | rfl <;> decide)).1
  · exact (Notices.level_other _ .sense _ _ 2 (by decide)).2

/-! ### Where the estimate stands among the blocks (R14, R119, R140) -/

/-- In every order the blocks before the Estimator and those behind it spare the entries and take the record, and the part is told
of what the Tier Monitor tells Power Control (R60). -/
theorem State.consume_around (s : State) (r : ScanRecord) (changed : Bool) (ord : CompletionOrder) :
    ∃ u v told, s.SparesEntries u ∧ (if ord.testFirst then s.dozeTest else s).TakesRecord u ∧
      (u.estimated r).1.SparesEntries v ∧ (u.estimated r).1.TakesRecord v ∧
      s.consume r changed ord = v.concluded told ord.testFirst ∧ ((u.estimated r).2 = true → told = true) := by
  obtain ⟨faultFirst, controllerFirst, testFirst⟩ := ord
  have tested : s.SparesEntries (if testFirst then s.dozeTest else s) := by
    split
    · exact s.dozeTest_sparesEntries
    · exact .refl s
  generalize hs : (if testFirst then s.dozeTest else s) = s1 at tested
  simp only [State.consume, hs]
  cases faultFirst <;> cases controllerFirst <;> simp only [if_true, if_false, Bool.false_eq_true]
  · exact ⟨_, _, _, tested, .refl s1,
      (State.controlled_sparesEntries _ r).trans (State.onFault_sparesEntries _ changed),
      (State.controlled_takesRecord _ r).trans (State.onFault_takesRecord _ changed), rfl, by simp +contextual⟩
  · exact ⟨_, _, _, tested.trans (s1.controlled_sparesEntries r), s1.controlled_takesRecord r,
      State.onFault_sparesEntries _ changed, State.onFault_takesRecord _ changed, rfl, by simp +contextual⟩
  · exact ⟨_, _, _, tested.trans (s1.onFault_sparesEntries changed), s1.onFault_takesRecord changed,
      State.controlled_sparesEntries _ r, State.controlled_takesRecord _ r, rfl, by simp +contextual⟩
  · exact ⟨_, _, _, (tested.trans (s1.onFault_sparesEntries changed)).trans (State.controlled_sparesEntries _ r),
      (s1.onFault_takesRecord changed).trans (State.controlled_takesRecord _ r), .refl _, .refl _, rfl,
      by simp +contextual⟩

end Sys2Proof.Machine
end

section
/-! PROOFS. A sound scan evaluates all five records. -/

namespace Sys2Proof.Machine

/-! ### What an evaluation of the Tier Monitor reports (R47, R61, R62) -/

theorem TierMonitor.evaluate_moves (m : TierMonitor) (compensated reserve : Nat) (dozeRecord : Bool) (k : Fin 5) :
    (m.evaluate compensated reserve dozeRecord).2[k] =
      { pending := decide (m.recs[k].st = .clear ∧ (m.evaluate compensated reserve dozeRecord).1.recs[k].st ≠ .clear)
        active := m.recs[k].enters (m.evaluate compensated reserve dozeRecord).1.recs[k]
        released := m.recs[k].leaves (m.evaluate compensated reserve dozeRecord).1.recs[k] } := by
  rw [TierMonitor.evaluate_get, ← TierRecord.evaluate_move]
  simp [TierMonitor.evaluate]

/-- How many of the tiers' entries, and of the cutoff's, a counter counts (R61, R62, R165). -/
def Selector.entries (sel : Selector) (enters : Fin 5 → Bool) : Nat :=
  if sel.inhibit then 0
  else (List.finRange 5).countP fun k =>
    enters k && (if k = 4 then decide (sel.qualifier = 0)
      else decide (sel.qualifier = 0) || decide (sel.qualifier = k.val + 1))
    && decide (sel.kind = if k = 4 then .cutoffEntry else .tierEntry)

/-- The numbers of the tiers that enter. -/
def tierNos (enters : Fin 5 → Bool) : List Nat :=
  ((List.finRange 5).filter fun k : Fin 5 => decide (k ≠ 4) && enters k).map fun k => k.val + 1

theorem Selector.counts_tierNos (sel : Selector) (enters : Fin 5 → Bool) (h : sel.kind = .tierEntry) :
    ((tierNos enters).filter (sel.counts .tierEntry)).length = sel.entries enters := by
  rw [tierNos, List.filter_map, List.length_map, List.filter_filter, ← List.countP_eq_length_filter, Selector.entries]
  cases quiet : sel.inhibit
  · refine (if_neg Bool.false_ne_true).symm ▸ List.countP_congr fun k _ => ?_
    by_cases cutoff : k = 4 <;> simp [cutoff, h, quiet, Selector.counts, and_comm]
  · simp [Selector.counts, quiet]

theorem Selector.counts_cutoff (sel : Selector) (enters : Fin 5 → Bool) (h : sel.kind = .cutoffEntry) :
    ((if enters 4 then [0] else []).filter (sel.counts .cutoffEntry)).length = sel.entries enters := by
  have others : (fun k : Fin 5 => enters k && (if k = 4 then decide (sel.qualifier = 0)
      else decide (sel.qualifier = 0) || decide (sel.qualifier = k.val + 1))
      && decide (EventKind.cutoffEntry = if k = 4 then .cutoffEntry else .tierEntry)) =
      fun k => decide (k = 4) && (enters 4 && decide (sel.qualifier = 0)) := by
    funext k
    by_cases cutoff : k = 4 <;> simp [cutoff]
  have once : (List.finRange 5).countP (fun k => decide (k = 4)) = 1 := by decide
  rw [Selector.entries, h, others]
  cases quiet : sel.inhibit <;> cases called : enters 4 <;> by_cases all : sel.qualifier = 0 <;>
    simp [Selector.counts, h, quiet, all, once]

/-- A counter after the entries of one estimate update (R165). -/
def Counter.entered (c : Counter) (enters : Fin 5 → Bool) : Counter :=
  { c with value := min Config.totalMax (c.value + c.sel.entries enters) }

theorem Counter.entered_capped (c : Counter) (enters : Fin 5 → Bool) :
    ({ c with value := min Config.totalMax c.value } : Counter).entered enters = c.entered enters := by
  simp only [Counter.entered, Counter.mk.injEq, true_and]; omega

theorem Counter.capped_entered (c : Counter) (enters : Fin 5 → Bool) :
    { c.entered enters with value := min Config.totalMax (c.entered enters).value } = c.entered enters := by
  simp [Counter.entered]

/-- The reports of the tiers' entries and of the cutoff's make of a counter of either kind what it counts (R61, R62). -/
theorem Counter.count_entries (c : Counter) (enters : Fin 5 → Bool)
    (h : c.sel.kind = .tierEntry ∨ c.sel.kind = .cutoffEntry) :
    (c.count .tierEntry (tierNos enters)).count .cutoffEntry (if enters 4 then [0] else []) = c.entered enters := by
  rcases h with tier | cutoff
  · rw [Counter.count_other .cutoffEntry _ _ (by simp [tier]), Counter.count, c.sel.counts_tierNos enters tier]
    exact c.capped_entered enters
  · rw [Counter.count_other .tierEntry _ _ (by simp [cutoff]), Counter.count, Selector.counts_cutoff _ enters cutoff]
    exact c.entered_capped enters

/-! ### The notices TIER and CUTOFF (R61, R62) -/

theorem Notices.edge_tier (n : Notices) (happens : Bool) :
    (n.edge .tier happens).latch[1] = (n.latch[1] || happens) := by
  rw [Notices.edge_latch]; cases happens <;> simp [NoticeCode.bit]

theorem cutoffBit_marked (m : BitVec 9) : decide (m &&& NoticeCode.cutoff.bit ≠ 0) = m[2] := by
  have bit : NoticeCode.cutoff.bit = BitVec.twoPow 9 2 := by decide
  rw [bit, BitVec.and_twoPow]
  have some : ¬BitVec.twoPow 9 2 = 0#9 := by decide
  cases h : m[2] <;> simp [BitVec.getLsbD_eq_getElem, h, some]

/-- CUTOFF is latched at the onset of its condition, and its end clears a latch whose acknowledge mark is set (R162). -/
theorem Notices.level_cutoff (n : Notices) (before after : Bool) : (n.level .cutoff before after).latch[2] =
    if !before && after then true else if before && !after && n.ackMark[2] then false else n.latch[2] := by
  rw [Notices.level, cutoffBit_marked]
  split_ifs <;> simp [NoticeCode.bit]

theorem Notices.edge_tier_cutoff (n : Notices) (happens : Bool) : (n.edge .tier happens).latch[2] = n.latch[2] :=
  n.edge_latch_other .tier happens 2 (by decide)

theorem Notices.level_cutoff_tier (n : Notices) (before after : Bool) :
    (n.level .cutoff before after).latch[1] = n.latch[1] :=
  (n.level_other .cutoff before after 1 (by decide)).1

/-! ### The estimate update at the Tier Monitor -/

/-- What an estimate update at the Tier Monitor makes of the part: the five records are evaluated and the depth is formed; TIER
is latched for a tier that enters or leaves, CUTOFF follows the cutoff, and the entries are counted (R47, R58, R61, R62). -/
structure State.TakesTiers (s t : State) (r : ScanRecord) : Prop where
  tiers : t.tiers = (s.tiers.evaluate t.est.compensated t.est.reserve (decide (r.power = .doze))).1
  tier : t.notices.latch[1] = (s.notices.latch[1] || decide (∃ k : Fin 5, k ≠ 4 ∧
    (s.tiers.recs[k].enters t.tiers.recs[k] || s.tiers.recs[k].leaves t.tiers.recs[k]) = true))
  cutoff : t.notices.latch[2] = (if s.tiers.recs[(4 : Fin 5)].enters t.tiers.recs[(4 : Fin 5)] then true
    else if s.tiers.recs[(4 : Fin 5)].leaves t.tiers.recs[(4 : Fin 5)] && s.notices.ackMark[2] then false
    else s.notices.latch[2])
  counted : ∀ n : Fin 8, s.tally[n].sel.kind = .tierEntry ∨ s.tally[n].sel.kind = .cutoffEntry →
    t.tally[n] = s.tally[n].entered fun k => s.tiers.recs[k].enters t.tiers.recs[k]

/-- What the blocks about it leave alone does not bear on what the Tier Monitor does (R14). -/
theorem State.TakesTiers.between {s t u v : State} {r : ScanRecord} (before : s.SparesEntries t) (h : t.TakesTiers u r)
    (after : u.SparesEntries v) : s.TakesTiers v r := by
  obtain ⟨tiers, tier, cutoff, counted⟩ := h
  rw [before.estimate.tiers] at tiers tier cutoff counted
  rw [before.tier] at tier
  rw [before.cutoff, before.mark] at cutoff
  rw [← after.estimate.tiers] at tiers tier cutoff counted
  rw [← after.estimate.est] at tiers
  refine ⟨tiers, after.tier.trans tier, after.cutoff.trans cutoff, fun n selected => ?_⟩
  have first : t.tally[n] = s.tally[n] ∨ t.tally[n] = { s.tally[n] with value := min Config.totalMax s.tally[n].value } :=
    selected.elim (before.tierEntry n) (before.cutoffEntry n)
  have sel : t.tally[n].sel = s.tally[n].sel := by rcases first with e | e <;> rw [e]
  have formed : u.tally[n] = s.tally[n].entered fun k => s.tiers.recs[k].enters v.tiers.recs[k] := by
    rw [counted n (by rw [sel]; exact selected)]
    rcases first with e | e <;> rw [e]
    rw [Counter.entered_capped]
  have last : v.tally[n] = u.tally[n] ∨ v.tally[n] = { u.tally[n] with value := min Config.totalMax u.tally[n].value } := by
    refine Or.elim ?_ (after.tierEntry n) (after.cutoffEntry n)
    rw [formed]; exact selected
  rcases last with e | e <;> rw [e, formed]
  rw [Counter.capped_entered]

theorem State.evaluateTiers_takesTiers (s : State) (r : ScanRecord) : s.TakesTiers (s.evaluateTiers r).1 r := by
  have moves := s.tiers.evaluate_moves s.est.compensated s.est.reserve (decide (r.power = .doze))
  simp only [State.evaluateTiers]
  generalize he : s.tiers.evaluate s.est.compensated s.est.reserve (decide (r.power = .doze)) = e at moves ⊢
  refine ⟨?_, ?_, ?_, fun n selected => ?_⟩
  · simp [he]
  · simp only [State.reportIf_notices, State.report_notices, State.reportIf_tiers, State.report_tiers]
    rw [Notices.level_cutoff_tier, Notices.edge_tier]
    simp only [moves]
    congr 1
    rw [Bool.eq_iff_iff]; simp
  · simp only [State.reportIf_notices, State.report_notices, State.reportIf_tiers, State.report_tiers]
    rw [Notices.level_cutoff, Notices.edge_tier_cutoff, Notices.edge_ackMark]
    rfl
  · simp only [State.reportIf, State.report_get, State.report_tiers, moves]
    rw [show (e.2[4] : Move) = _ from moves 4]
    exact Counter.count_entries _ (fun k => s.tiers.recs[k].enters e.1.recs[k]) selected

/-- Some record enters PENDING or ACTIVE: from CLEAR, or from PENDING to ACTIVE (R60). -/
def TierMonitor.Rouses (m m' : TierMonitor) : Prop :=
  ∃ k : Fin 5, (m.recs[k].st = .clear ∧ m'.recs[k].st ≠ .clear) ∨ (m.recs[k].st = .pending ∧ m'.recs[k].st = .active)

/-- Power Control is told of a record that enters PENDING or ACTIVE (R60). -/
theorem State.evaluateTiers_told (s : State) (r : ScanRecord) (h : s.tiers.Rouses (s.evaluateTiers r).1.tiers) :
    (s.evaluateTiers r).2 = true := by
  have moves := s.tiers.evaluate_moves s.est.compensated s.est.reserve (decide (r.power = .doze))
  obtain ⟨k, h⟩ := h
  simp only [State.evaluateTiers, State.reportIf_tiers, State.report_tiers] at h ⊢
  rw [List.any_eq_true]
  refine ⟨k, List.mem_finRange k, ?_⟩
  rw [moves k, Bool.or_eq_true]
  rcases h with ⟨before, after⟩ | ⟨before, after⟩
  · exact .inl (decide_eq_true ⟨before, after⟩)
  · right; simp only [TierRecord.enters, TierRecord.calls, before, after]; rfl

theorem State.TakesTiers.resolveIf {s t : State} {r : ScanRecord} (h : s.TakesTiers t r) (p : Prop) [Decidable p] :
    s.TakesTiers (if p then t.resolve else t) r :=
  .between (.refl s) h ((State.SparesEntries.refl t).resolveIf p)

/-- A record that yields an estimate update has the tiers evaluated, and Power Control is told of an entry (R47, R60). -/
theorem State.estimated_takesTiers (s : State) (r : ScanRecord) (h : (s.est.complete r).update = true) :
    s.TakesTiers (s.estimated r).1 r ∧
    (s.tiers.Rouses (s.estimated r).1.tiers → (s.estimated r).2 = true) := by
  simp only [State.estimated, h, if_true]
  generalize ho : s.est.complete r = o
  generalize hq : (if o.first = true then { s.seq with settleStart := some s.now } else s.seq) = q
  have reported : State.SparesEntries { s with est := o.est, seq := q }
      ((({ s with est := o.est, seq := q } : State).reportIf .restCorrection o.restEvent).reportIf .fullResync o.fullEvent) := by
    simp only [State.reportIf]
    exact ((State.SparesEntries.refl _).report .restCorrection _ (by decide)).report .fullResync _ (by decide)
  generalize (({ s with est := o.est, seq := q } : State).reportIf .restCorrection o.restEvent).reportIf .fullResync
    o.fullEvent = u at reported ⊢
  have tiers : u.tiers = s.tiers := reported.estimate.tiers
  constructor
  · refine .resolveIf ?_ _
    have taken := State.TakesTiers.between reported (u.evaluateTiers_takesTiers r) (.refl _)
    exact ⟨taken.tiers, taken.tier, taken.cutoff, taken.counted⟩
  · intro rouses
    refine u.evaluateTiers_told r ?_
    rw [tiers]
    have kept (p : Prop) [Decidable p] : (if p then (u.evaluateTiers r).1.resolve else (u.evaluateTiers r).1).tiers =
        (u.evaluateTiers r).1.tiers := ((State.SparesEntries.refl _).resolveIf p).estimate.tiers
    rwa [kept] at rouses

/-! ### The completion of a scan -/

/-- In DOZE the auto-doze test is never due (R140). -/
theorem State.dozeTest_doze (s : State) (h : s.power.st = .doze) : s.dozeTest = s := by
  have idle : s.autoDozeDue = false := by simp [State.autoDozeDue, h]
  simp [State.dozeTest, idle]

/-- At the moment of an exit the auto-doze test is not due: 60 s must pass (R140). -/
theorem State.dozeTest_exit (s : State) (h : s.power.lastExit = s.now) : s.dozeTest = s := by
  have idle : s.autoDozeDue = false := by
    simp [State.autoDozeDue, h, Config.wakeUnits, Config.unitsPerSecond]
  simp [State.dozeTest, idle]

theorem State.exitDoze_power (s : State) (h : s.power.st = .doze) :
    s.exitDoze.power = { s.power with st := .run, lastExit := s.now } := by
  simp only [State.exitDoze, if_pos h]
  split <;> simp

/-- A completion that is told of a cause of exit ends DOZE, and no auto-doze test undoes it (R60, R140, R141). -/
theorem State.concluded_doze (s : State) (testFirst : Bool) (h : s.power.st = .doze) :
    (s.concluded true testFirst).power = { s.power with st := .run, lastExit := s.now } := by
  have exited : s.exitDoze.dozeTest = s.exitDoze :=
    State.dozeTest_exit _ (by rw [s.exitDoze_power h, s.exitDoze_sparesEstimate.now])
  simp only [State.concluded, if_true, exited, ite_self]
  rw [← s.exitDoze_power h]
  split
  · exact State.beginScan_power _
  · rfl

/-- A sound scan has the tiers evaluated in every order of the blocks; in DOZE a record that enters PENDING or ACTIVE ends DOZE
(R14, R47, R60). -/
theorem State.completeScan_takesTiers (s : State) (f : Scan) (smp : Samples) (ord : CompletionOrder)
    (h : (s.est.complete (s.scanner.complete f smp).2).update = true) :
    s.TakesTiers (s.completeScan f smp ord) (s.scanner.complete f smp).2 ∧
    (s.power.st = .doze → s.tiers.Rouses (s.completeScan f smp ord).tiers →
      (s.completeScan f smp ord).power = { s.power with st := .run, lastExit := s.now }) := by
  have scanned := s.scanned_sparesEntries f smp
  have scannedPower : (s.scanned f smp).power = s.power := by simp only [State.scanned, State.reportIf_power]
  simp only [State.completeScan]
  generalize (s.scanner.complete f smp).2 = r at h ⊢
  generalize s.scanned f smp = s1 at scanned scannedPower ⊢
  obtain ⟨u, v, told, before, taken, after, taken', ends, tells⟩ :=
    s1.consume_around r (s.scanner.senseFault != r.senseFault) ord
  have spared := scanned.trans before
  obtain ⟨evaluated, rouse⟩ := u.estimated_takesTiers r (by rw [spared.estimate.est]; exact h)
  have concluded := after.trans (v.concluded_sparesEntries told ord.testFirst)
  rw [ends]
  refine ⟨.between spared evaluated concluded, fun doze rouses => ?_⟩
  rw [concluded.estimate.tiers, ← spared.estimate.tiers] at rouses
  rw [tells (rouse rouses)]
  have doze1 : s1.power.st = .doze := by rw [scannedPower]; exact doze
  have power : v.power = s.power := by
    rw [taken'.power, (u.estimated_takesRecord r).power, taken.power, s1.dozeTest_doze doze1, ite_self, scannedPower]
  rw [v.concluded_doze _ (by rw [power]; exact doze), power, after.estimate.now,
    (u.estimated_takesRecord r).now, spared.estimate.now]

/-- An evaluation of the Tier Monitor, record by record: each by its measure, and a DISABLED one stands (R47). -/
theorem TierMonitor.evaluate_measured (m : TierMonitor) (compensated reserve : Nat) (dozeRecord : Bool) (k : Fin 5) :
    let bypass := decide (k = 4) && dozeRecord
    let r' := (m.evaluate compensated reserve dozeRecord).1.recs[k]
    (m.recs[k].cfg.measure = .voltage → r' = (m.recs[k].evaluate compensated bypass).1) ∧
    (m.recs[k].cfg.measure = .reserve → r' = (m.recs[k].evaluate reserve bypass).1) ∧
    (m.recs[k].st = .disabled → r' = m.recs[k]) := by
  dsimp only
  rw [TierMonitor.evaluate_get, Bool.and_comm dozeRecord]
  refine ⟨fun measure => ?_, fun measure => ?_, fun disabled => TierRecord.evaluate_stands _ _ _ (.inl disabled)⟩ <;>
    simp only [TierRecord.measured, measure]

/-- Settles O59: the table is `TierRecord.evaluate` state by state, with `TierRecord.evaluate_bypass` for the cutoff; a sound scan
yields an estimate update, at which the records are evaluated (`State.completeScan_takesTiers`). -/
theorem aRecordMovesByTheEvaluationTable : Obligations.ARecordMovesByTheEvaluationTable := by
  unfold Obligations.ARecordMovesByTheEvaluationTable
  refine ⟨fun r x _ => ?_, fun r x => ?_, fun dt smp ord s f hr hf hd => ?_⟩
  · refine ⟨fun st => ?_, fun st => ?_, fun st => ?_, fun st => ?_, r.evaluate_stands x false,
      fun confirm release counted => TierRecord.Counted.evaluate counted x false confirm release, r.evaluate_conf x false⟩
    · rw [r.evaluate_clear x false st]
      simp only [Bool.false_eq_true, false_or]
      refine ⟨fun low one => ?_, fun low more => ?_, fun high => if_neg (Nat.not_le.2 high)⟩
      · rw [if_pos low, if_pos one.le]; exact ⟨⟨rfl, rfl, rfl⟩, rfl⟩
      · rw [if_pos low, if_neg (Nat.not_le.2 more)]; exact ⟨rfl, rfl, rfl⟩
    · rw [r.evaluate_pending x false st]
      simp only [Bool.false_eq_true, false_or]
      refine ⟨fun low last => ?_, fun low more => ?_, fun high => ?_⟩
      · rw [if_pos low, if_pos last]; exact ⟨⟨rfl, rfl, rfl⟩, rfl⟩
      · rw [if_pos low, if_neg (Nat.not_le.2 more)]; exact ⟨rfl, rfl, rfl⟩
      · rw [if_neg (Nat.not_le.2 high)]; exact ⟨rfl, rfl, rfl⟩
    · rw [r.evaluate_active x false st]
      refine ⟨fun high one => ?_, fun high more => ?_, fun low => if_neg (Nat.not_lt.2 low)⟩
      · rw [if_pos high, if_pos one.le]; exact ⟨rfl, rfl, rfl⟩
      · rw [if_pos high, if_neg (Nat.not_le.2 more)]; exact ⟨rfl, rfl, rfl⟩
    · rw [r.evaluate_releasing x false st]
      refine ⟨fun high last => ?_, fun high more => ?_, fun low => ?_⟩
      · rw [if_pos high, if_pos last]; exact ⟨rfl, rfl, rfl⟩
      · rw [if_pos high, if_neg (Nat.not_le.2 more)]; exact ⟨rfl, rfl, rfl⟩
      · rw [if_neg (Nat.not_lt.2 low)]; exact ⟨rfl, rfl, rfl⟩
  · exact ⟨fun ⟨low, waits⟩ => r.evaluate_bypass x low waits, r.evaluate_bypass_idle x⟩
  · have runs := exec_scanComplete dt smp ord s f hr hf hd
    have record := (Scanner.readings_fields ((s.elapse dt).completeScan_readings f smp ord)).1
    have taken := (s.elapse dt).completeScan_takesTiers f smp ord
    simp only [State.elapse_scanner, State.elapse_est, State.elapse_power, State.elapse_tiers, State.elapse_clock]
      at record taken
    rw [(s.scanner.complete_counts f smp).1] at record
    refine ⟨_, (s.scanner.complete f smp).2, runs, record, fun fine voltage current => ?_⟩
    obtain ⟨evaluated, rouses⟩ := taken (by
      rw [Estimator.complete_sound _ _ (ScanRecord.cls_sound fine (not_or.2 ⟨voltage, current⟩))]; rfl)
    obtain ⟨tiers, tier, cutoff, counted⟩ := evaluated
    simp only [State.elapse_tiers, State.elapse_notices, State.elapse_tally] at tiers tier cutoff counted
    generalize (s.elapse dt).completeScan f smp ord = t at *
    generalize (s.scanner.complete f smp).2 = r at *
    have calls (y : TierRecord) : decide (y.st = .active ∨ y.st = .releasing) = y.calls := Bool.decide_or _ _
    simp only [calls]
    refine ⟨fun k => ?_, ?_, tier, cutoff, fun n selected => ?_, rouses⟩
    · rw [tiers]; exact s.tiers.evaluate_measured _ _ _ k
    · rw [tiers]; rfl
    · rw [counted n selected]; rfl

end Sys2Proof.Machine
end

section
/-! PROOFS. What leaves the Tier Monitor, SHORE and IGN alone. -/

namespace Sys2Proof.Machine

/-- The records, the depth and the debounced standing of SHORE or IGN are left alone. -/
structure State.KeepsTiers (s t : State) : Prop where
  tiers : t.tiers = s.tiers
  source : t.sourcePresent = s.sourcePresent

namespace State.KeepsTiers

theorem refl (s : State) : s.KeepsTiers s := ⟨rfl, rfl⟩

theorem trans {s t u : State} (h : s.KeepsTiers t) (k : t.KeepsTiers u) : s.KeepsTiers u :=
  ⟨k.tiers.trans h.tiers, k.source.trans h.source⟩

theorem of_power {s t : State} (tiers : t.tiers = s.tiers) (power : t.power = s.power) : s.KeepsTiers t :=
  ⟨tiers, by rw [State.sourcePresent, power]; rfl⟩

theorem moves {s t u : State} (h : s.KeepsTiers t) (k : t.Moves u) : s.KeepsTiers u := h.trans (of_power k.tiers k.power)

theorem resolve {s t : State} (h : s.KeepsTiers t) : s.KeepsTiers t.resolve := h.moves t.resolve_moves

theorem resolveOutputs {s t : State} (h : s.KeepsTiers t) : s.KeepsTiers t.resolveOutputs := h.moves t.resolveOutputs_moves

theorem report {s t : State} (h : s.KeepsTiers t) (k : EventKind) (l : List Nat) : s.KeepsTiers (t.report k l) :=
  h.moves (t.report_moves k l)

/-- A choice between two parts of which each keeps the tiers. -/
theorem ite {s t u : State} {p : Prop} [Decidable p] (h : s.KeepsTiers t) (k : s.KeepsTiers u) :
    s.KeepsTiers (if p then t else u) := by
  split
  · exact h
  · exact k

end State.KeepsTiers

section
variable (s : State)

/-! ### The link (R147 to R154) -/

theorem State.onLink_keepsTiers (f : Link → Link) : s.KeepsTiers (s.onLink f) := .of_power rfl rfl

theorem State.dropReply_keepsTiers : s.KeepsTiers s.dropReply := .ite (s.onLink_keepsTiers _) (.refl s)

theorem State.beginChar_keepsTiers (start : Sample3) : s.KeepsTiers (s.beginChar start) :=
  .ite (s.onLink_keepsTiers _) (s.onLink_keepsTiers _)

theorem State.address_keepsTiers (a : Nat) : s.KeepsTiers (s.address a) := .ite (s.onLink_keepsTiers _) (.refl s)

/-! ### Scans, the power state and resets -/

theorem State.beginScan_keepsTiers : s.KeepsTiers s.beginScan := .of_power s.beginScan_tiers s.beginScan_power

theorem State.enterDoze_keepsTiers : s.KeepsTiers s.enterDoze :=
  ⟨s.enterDoze_tiers, by simp [State.sourcePresent, State.enterDoze_power]⟩

theorem State.dozeTest_keepsTiers : s.KeepsTiers s.dozeTest := .ite s.enterDoze_keepsTiers (.refl s)

theorem State.exitDoze_keepsTiers : s.KeepsTiers s.exitDoze := by
  simp only [State.exitDoze]
  refine .ite (.ite (.trans ?_ (State.beginScan_keepsTiers _)) ?_) (.refl s)
  · exact ⟨rfl, rfl⟩
  · exact ⟨rfl, rfl⟩

theorem State.concluded_keepsTiers (told testFirst : Bool) : s.KeepsTiers (s.concluded told testFirst) := by
  simp only [State.concluded]
  have left : s.KeepsTiers (if told then s.exitDoze else s) := .ite s.exitDoze_keepsTiers (.refl s)
  generalize (if told then s.exitDoze else s) = t at left ⊢
  have tested : s.KeepsTiers (if testFirst then t else t.dozeTest) := .ite left (left.trans t.dozeTest_keepsTiers)
  generalize (if testFirst then t else t.dozeTest) = u at tested ⊢
  exact .ite (tested.trans u.beginScan_keepsTiers) tested

theorem State.lapse_keepsTiers : s.KeepsTiers s.lapse :=
  .ite (.resolve (.report (.of_power s.clearForces_tiers s.clearForces_power) _ _)) (.refl s)

theorem State.resetBy_keepsTiers (src : ResetSource) : s.KeepsTiers (s.resetBy src) := by
  have started : s.KeepsTiers (if s.inReset.isSome then s else s.startReset) := .ite (.refl s) ⟨rfl, rfl⟩
  exact started.trans (.of_power rfl rfl)

theorem State.fall_keepsTiers (start : Sample3) : s.KeepsTiers (s.fall start) :=
  .ite (s.dropReply_keepsTiers.trans (State.resetBy_keepsTiers _ _))
    ((s.dropReply_keepsTiers.trans (State.exitDoze_keepsTiers _)).trans (State.beginChar_keepsTiers _ _))

/-! ### The changes that requests bring -/

theorem State.dropHolds_keepsTiers (p : Ch → Bool) : s.KeepsTiers (s.dropHolds p) := .of_power rfl rfl

theorem State.mapChans_keepsTiers (f : Ch → Chan → Chan) : s.KeepsTiers (s.mapChans f) :=
  .of_power (s.mapChans_tiers f) (s.mapChans_power f)

theorem State.setChan_keepsTiers (i : Ch) (c : Chan) : s.KeepsTiers (s.setChan i c) := .of_power rfl rfl

theorem State.switchOn_keepsTiers (set : Nat) : s.KeepsTiers (s.switchOn set) :=
  .ite (.resolve ((s.mapChans_keepsTiers _).moves (State.markEach_moves _ _))) (.refl s)

theorem State.switchOff_keepsTiers (set : Nat) : s.KeepsTiers (s.switchOff set) :=
  .ite (.resolve ((s.mapChans_keepsTiers _).trans (State.dropHolds_keepsTiers _ _))) (.refl s)

theorem State.rehold_keepsTiers (i : Ch) (minutes : Nat) : s.KeepsTiers (s.rehold i minutes) := .of_power rfl rfl

theorem State.placeNew_keepsTiers (i : Ch) (minutes : Nat) : s.KeepsTiers (s.placeNew i minutes) :=
  .resolve (.of_power rfl rfl)

theorem State.release_keepsTiers (i : Ch) : s.KeepsTiers (s.release i) := .ite (.resolve (s.dropHolds_keepsTiers _)) (.refl s)

theorem State.setForce_keepsTiers (i : Ch) (f : Force) : s.KeepsTiers (s.setForce i f) :=
  .ite (.refl s) (.resolve (s.setChan_keepsTiers _ _))

theorem State.clearTrips_keepsTiers (set : Nat) : s.KeepsTiers (s.clearTrips set) :=
  .resolveOutputs (.of_power (by simp only [State.mapChans_tiers]) (by simp only [State.mapChans_power]))

theorem State.writeLoads_keepsTiers (new : Ch → LoadSettings) : s.KeepsTiers (s.writeLoads new) :=
  .of_power (by simp only [State.writeLoads, State.dropHolds_tiers, State.mapChans_tiers])
    (by simp only [State.writeLoads, State.dropHolds_power, State.mapChans_power])

theorem State.setLoads_keepsTiers (new : Ch → LoadSettings) : s.KeepsTiers (s.setLoads new) :=
  .ite (.resolve (s.writeLoads_keepsTiers new)) (s.writeLoads_keepsTiers new)

theorem State.setSequence_keepsTiers (cfg : SequenceSettings) : s.KeepsTiers (s.setSequence cfg) :=
  .ite (.refl s) (.resolve (.of_power rfl rfl))

theorem State.setOrder_keepsTiers (order : List Ch) : s.KeepsTiers (s.setOrder order) :=
  .ite (.refl s) (.resolve (.of_power rfl rfl))

end

end Sys2Proof.Machine
end

section
/-! PROOFS. Every command makes of the Tier Monitor one of its changes, and so every step keeps its law. -/

namespace Sys2Proof.Machine

/-- From one state of the part to another the Tier Monitor makes one of its changes. -/
def State.TiersBecome (s t : State) : Prop := s.tiers.Becomes s.sourcePresent t.tiers t.sourcePresent

namespace State.TiersBecome

theorem kept {s t : State} (h : s.KeepsTiers t) : s.TiersBecome t := by
  rw [State.TiersBecome, h.tiers, h.source]; exact .kept

theorem refl (s : State) : s.TiersBecome s := .kept (.refl s)

/-- What keeps the tiers before and behind a change does not bear on it. -/
theorem between {s t u v : State} (before : s.KeepsTiers t) (h : t.TiersBecome u) (after : u.KeepsTiers v) :
    s.TiersBecome v := by
  rw [State.TiersBecome, ← before.tiers, ← before.source, after.tiers, after.source]; exact h

/-- A change of the Tier Monitor with SHORE and IGN as they stand, which the Sequencer may then reconsider (R59). -/
theorem changed {s t : State} (h : s.tiers.Becomes s.sourcePresent t.tiers s.sourcePresent) (power : t.power = s.power)
    (p : Prop) [Decidable p] : s.TiersBecome (if p then t.resolve else t) := by
  refine between (.refl s) (u := t) ?_ (.ite (.resolve (.refl t)) (.refl t))
  rw [State.TiersBecome, show t.sourcePresent = s.sourcePresent by rw [State.sourcePresent, power]; rfl]
  exact h

end State.TiersBecome

/-! ### The answers to requests (R156, R157) -/

theorem State.whenIdle_tiers (s : State) (a : Answer) (h : s.TiersBecome a.state) : s.TiersBecome (s.whenIdle a).state := by
  unfold State.whenIdle; split
  · exact .refl s
  · exact h

theorem State.whenInstaller_tiers (s : State) (a : Answer) (h : s.TiersBecome a.state) :
    s.TiersBecome (s.whenInstaller a).state := by
  unfold State.whenInstaller; split
  · exact s.whenIdle_tiers a h
  · exact .refl s

section
variable (p : List Nat) (s : State)

theorem ansIdent_tiers : s.TiersBecome (ansIdent p s).state := by unfold ansIdent; split <;> exact .refl s
theorem ansStatus_tiers : s.TiersBecome (ansStatus p s).state := by unfold ansStatus; split <;> exact .refl s
theorem ansLoadStatus_tiers : s.TiersBecome (ansLoadStatus p s).state := by
  unfold ansLoadStatus; (repeat' split) <;> exact .refl s
theorem ansLinkStatus_tiers : s.TiersBecome (ansLinkStatus p s).state := by unfold ansLinkStatus; split <;> exact .refl s
theorem ansCountersRead_tiers : s.TiersBecome (ansCountersRead p s).state := by
  unfold ansCountersRead; split <;> exact .refl s
theorem ansMeasure_tiers : s.TiersBecome (ansMeasure p s).state := by unfold ansMeasure; split <;> exact .refl s
theorem ansProfileRead_tiers : s.TiersBecome (ansProfileRead p s).state := by
  unfold ansProfileRead; (repeat' split) <;> exact .refl s
theorem ansRestart_tiers : s.TiersBecome (ansRestart p s).state := by unfold ansRestart; split <;> exact .refl s

theorem ansSwitch_tiers : s.TiersBecome (ansSwitch p s).state := by
  unfold ansSwitch; split
  · split
    · exact .refl s
    · exact .kept (.ite (s.switchOn_keepsTiers _) (s.switchOff_keepsTiers _))
  · exact .refl s
theorem ansHold_tiers : s.TiersBecome (ansHold p s).state := by
  unfold ansHold; split
  · split
    · exact .refl s
    · dsimp only
      split_ifs
      exacts [.refl s, .kept (s.rehold_keepsTiers _ _), .refl s, .kept (s.placeNew_keepsTiers _ _)]
  · exact .refl s
theorem ansReleaseHold_tiers : s.TiersBecome (ansReleaseHold p s).state := by
  unfold ansReleaseHold; split
  · split
    · exact .refl s
    · exact .kept (s.release_keepsTiers _)
  · exact .refl s
theorem ansForce_tiers : s.TiersBecome (ansForce p s).state := by
  unfold ansForce; split
  · split
    · exact .refl s
    · split
      · exact .refl s
      · split_ifs
        exacts [.refl s, .refl s, .kept (s.setForce_keepsTiers _ _)]
  · exact .refl s
theorem ansClearTrip_tiers : s.TiersBecome (ansClearTrip p s).state := by
  unfold ansClearTrip; split
  · rw [State.accept_state]
    exact .kept (s.clearTrips_keepsTiers _)
  · exact .refl s
theorem ansClearUsage_tiers : s.TiersBecome (ansClearUsage p s).state := by
  unfold ansClearUsage; split
  · rw [State.accept_state]
    exact .kept (.of_power (s.clearUsage_tiers _) (s.clearUsage_power _))
  · exact .refl s

/-! Requests to the Notice Unit, to the counters and to the link leave the Tier Monitor and Power Control as they stand. -/

theorem ansAck_tiers : s.TiersBecome (ansAck p s).state := by
  unfold ansAck; (repeat' split) <;> exact .kept (.of_power rfl rfl)
theorem ansMask_tiers : s.TiersBecome (ansMask p s).state := by
  unfold ansMask; (repeat' split) <;> exact .kept (.of_power rfl rfl)
theorem ansCountersClear_tiers : s.TiersBecome (ansCountersClear p s).state := by
  unfold ansCountersClear; split <;> exact .kept (.of_power rfl rfl)
theorem ansClearLinkCounts_tiers : s.TiersBecome (ansClearLinkCounts p s).state := by
  unfold ansClearLinkCounts; split <;> exact .kept (.of_power rfl rfl)

theorem ansWriteBattery_tiers : s.TiersBecome (ansWriteBattery p s).state := by
  unfold ansWriteBattery; split
  · exact .refl s
  · exact s.whenInstaller_tiers _ (.kept (.of_power rfl rfl))

/-- A TIERS write spells settings that its record may take after the clamps: for the cutoff the measure and the flag are fixed
(R44, R45, R46). -/
theorem parseTier_fits {k : Fin 5} {m f f' u u' conf rel sup : Nat} {w : TierSettings}
    (h : parseTier k m f f' u u' conf rel sup = some w) : w.clamp.Fits k := by
  refine ⟨w.clamp_counts, fun cutoff => ?_⟩
  rw [parseTier, if_pos cutoff] at h
  cases h; exact ⟨rfl, rfl⟩

theorem State.writeTier_becomes (k : Fin 5) (cfg : TierSettings) (fits : cfg.Fits k) : s.TiersBecome (s.writeTier k cfg) := by
  simp only [State.writeTier]
  exact .changed (t := { s with tiers := s.tiers.write k cfg s.sourcePresent }) (.written k cfg fits) rfl _

theorem ansWriteTiers_tiers : s.TiersBecome (ansWriteTiers p s).state := by
  unfold ansWriteTiers; split
  · split
    · dsimp only
      split
      · exact .refl s
      · rename_i parsed; exact s.whenInstaller_tiers _ (s.writeTier_becomes _ _ (parseTier_fits parsed))
    · exact .refl s
  · exact .refl s
theorem ansWriteLoads_tiers : s.TiersBecome (ansWriteLoads p s).state := by
  unfold ansWriteLoads; split
  · exact .refl s
  · dsimp only
    split
    · exact .refl s
    · split_ifs
      · exact .refl s
      · exact .refl s
      · split
        · exact .refl s
        · split
          · exact s.whenInstaller_tiers _ (.kept (s.setLoads_keepsTiers _))
          · exact s.whenIdle_tiers _ (.kept (s.setLoads_keepsTiers _))
theorem ansWriteCurve_tiers : s.TiersBecome (ansWriteCurve p s).state := by
  unfold ansWriteCurve; split
  · exact .refl s
  · split
    · exact .refl s
    · split
      · exact .refl s
      · exact s.whenInstaller_tiers _ (.kept (.of_power rfl rfl))
theorem ansWriteSequence_tiers : s.TiersBecome (ansWriteSequence p s).state := by
  unfold ansWriteSequence; split
  · exact s.whenInstaller_tiers _ (.kept (s.setSequence_keepsTiers _))
  · exact .refl s
theorem ansWriteNotice_tiers : s.TiersBecome (ansWriteNotice p s).state := by
  unfold ansWriteNotice; split
  · split
    · exact .refl s
    · exact s.whenIdle_tiers _ (.kept (.of_power rfl rfl))
  · exact .refl s
theorem ansWriteCounters_tiers : s.TiersBecome (ansWriteCounters p s).state := by
  unfold ansWriteCounters; split
  · exact .refl s
  · split
    · exact .refl s
    · split_ifs
      exacts [.refl s, .refl s, s.whenIdle_tiers _ (.kept (.of_power rfl rfl))]
theorem ansWriteDoze_tiers : s.TiersBecome (ansWriteDoze p s).state := by
  unfold ansWriteDoze; split
  · split
    · exact .refl s
    · exact s.whenIdle_tiers _ (.kept ⟨rfl, rfl⟩)
  · exact .refl s
theorem ansMove_tiers : s.TiersBecome (ansMove p s).state := by
  unfold ansMove; split
  · split
    · exact .refl s
    · exact s.whenIdle_tiers _ (.kept (s.setOrder_keepsTiers _))
  · exact .refl s
theorem ansSave_tiers : s.TiersBecome (ansSave p s).state := by
  unfold ansSave; split
  · refine s.whenIdle_tiers _ ?_
    split
    · exact .refl s
    · exact .kept (.of_power rfl rfl)
  · exact .refl s

/-- LOAD_DEFAULTS writes the factory settings of all five records, and no other section bears on them (R56, R175). -/
theorem State.takeProfile_becomes : s.TiersBecome (s.takeProfile factoryProfile) := by
  have loads := s.writeLoads_keepsTiers fun i => factoryProfile.loads[i]
  simp only [State.takeProfile]
  generalize (s.writeLoads fun i => factoryProfile.loads[i]) = u at loads ⊢
  rw [State.TiersBecome, loads.tiers]
  exact Eq.subst (motive := fun x => s.tiers.Becomes s.sourcePresent _ x) loads.source.symm .defaults

theorem ansLoadDefaults_tiers : s.TiersBecome (ansLoadDefaults p s).state := by
  unfold ansLoadDefaults; split
  · refine s.whenInstaller_tiers _ ?_
    rw [State.accept_state]
    exact .between (.refl s) s.takeProfile_becomes (.resolve (.refl _))
  · exact .refl s

theorem State.setCharge_tiers (q : Nat) (clamped : Bool) : s.TiersBecome (s.setCharge q clamped).state := by
  refine s.whenInstaller_tiers _ ?_
  split
  · exact .refl s
  · exact .kept (.of_power rfl rfl)
theorem ansSetChargeReserve_tiers : s.TiersBecome (ansSetChargeReserve p s).state := by
  unfold ansSetChargeReserve; split
  · exact s.setCharge_tiers _ _
  · exact .refl s
theorem ansSetChargeFull_tiers : s.TiersBecome (ansSetChargeFull p s).state := by
  unfold ansSetChargeFull; split
  · exact s.setCharge_tiers _ _
  · exact .refl s

theorem ansDoze_tiers : s.TiersBecome (ansDoze p s).state := by
  unfold ansDoze; split
  · refine s.whenIdle_tiers _ ?_
    split
    · exact .refl s
    · exact .kept s.enterDoze_keepsTiers
  · exact .refl s

theorem ansProfileWrite_tiers : s.TiersBecome (ansProfileWrite p s).state := by
  unfold ansProfileWrite; split
  · exact .refl s
  · rename_i fields
    split
    exacts [ansWriteBattery_tiers fields s, ansWriteTiers_tiers fields s, ansWriteLoads_tiers fields s,
      ansWriteCurve_tiers fields s, ansWriteSequence_tiers fields s, ansWriteNotice_tiers fields s,
      ansWriteCounters_tiers fields s, ansWriteDoze_tiers fields s, .refl s]
theorem ansSetCharge_tiers : s.TiersBecome (ansSetCharge p s).state := by
  unfold ansSetCharge; split
  · split
    exacts [ansSetChargeReserve_tiers _ s, ansSetChargeFull_tiers _ s, .refl s]
  · exact .refl s

/-- Whatever the KIND, the answer makes of the Tier Monitor one of its changes (R156, R157). -/
theorem answerKind_tiers (kind : Nat) : s.TiersBecome (answerKind kind p s).state := by
  unfold answerKind; split
  exacts [ansIdent_tiers p s, ansStatus_tiers p s, ansLoadStatus_tiers p s, ansLinkStatus_tiers p s,
    ansCountersRead_tiers p s, ansMeasure_tiers p s, ansSwitch_tiers p s, ansHold_tiers p s, ansReleaseHold_tiers p s,
    ansForce_tiers p s, ansClearTrip_tiers p s, ansClearUsage_tiers p s, ansAck_tiers p s, ansMask_tiers p s,
    ansCountersClear_tiers p s, ansClearLinkCounts_tiers p s, ansProfileRead_tiers p s, ansProfileWrite_tiers p s,
    ansMove_tiers p s, ansSave_tiers p s, ansLoadDefaults_tiers p s, ansSetCharge_tiers p s, ansDoze_tiers p s,
    ansRestart_tiers p s, .refl s]

end

/-! ### Requests, characters and events -/

/-- Handing a request over makes of the Tier Monitor what its answer does (R153, R154). -/
theorem State.handle_tiers (s : State) (kind : Nat) (r : Req) (f : List Nat → State → Answer)
    (hf : ∀ (p : List Nat) (u : State), u.TiersBecome (f p u).state) : s.TiersBecome (s.handle kind r f) := by
  have taken : s.KeepsTiers s.frameGood := .of_power rfl rfl
  have answer := hf (r.payload.map BitVec.toNat) s.frameGood
  simp only [State.handle]
  split_ifs
  · exact .kept taken
  · exact .between taken answer (State.resetBy_keepsTiers _ _)
  · exact .between taken answer (.refl _)
  · exact .between taken answer (.of_power rfl rfl)

theorem State.elapse_keepsTiers (s : State) (dt : Nat) : s.KeepsTiers (s.elapse dt) := .of_power rfl rfl

theorem State.request_tiers {s t : State} {dt kind : Nat} {r : Req} {f : List Nat → State → Answer}
    (hf : ∀ (p : List Nat) (u : State), u.TiersBecome (f p u).state) (h : s.request dt kind r f = .next t) : s.TiersBecome t := by
  cases h
  refine .between (s.elapse_keepsTiers dt) ?_ (.refl _)
  unfold State.awake
  split
  · exact .refl _
  dsimp only
  split_ifs
  · exact .refl _
  · exact .kept (State.resetBy_keepsTiers _ _)
  · exact State.handle_tiers _ kind r f hf

theorem State.event_tiers {s t : State} {dt : Nat} {f : State → State}
    (hf : (s.elapse dt).TiersBecome (f (s.elapse dt))) (h : s.event dt f = .next t) : s.TiersBecome t := by
  cases h
  refine .between (s.elapse_keepsTiers dt) ?_ (.refl _)
  unfold State.awake
  split
  · exact .refl _
  · exact hf

theorem State.acceptFrame_tiers (s : State) (frame : List Byte) : s.TiersBecome (s.acceptFrame frame) := by
  unfold State.acceptFrame; split
  · exact s.handle_tiers _ _ _ fun p u => answerKind_tiers p u _
  · exact .refl s

/-- A data character changes the Tier Monitor only by the request that it completes (R153). -/
theorem State.data_tiers (s : State) (d : Nat) : s.TiersBecome (s.data d) := by
  simp only [State.data]
  split_ifs
  exacts [.kept (s.onLink_keepsTiers _), s.acceptFrame_tiers _, .kept (s.onLink_keepsTiers _),
    .kept (s.onLink_keepsTiers _)]

theorem State.character_tiers (s : State) (isAddress : Bool) (d : Nat) : s.TiersBecome (s.character isAddress d) := by
  unfold State.character; split
  · exact .kept (.ite (s.address_keepsTiers d) (.refl s))
  · split
    · exact .kept ((s.onLink_keepsTiers _).trans (State.address_keepsTiers _ d))
    · exact s.data_tiers d
  · exact .refl s

theorem State.takeChar_tiers (s : State) (fall : Nat) (c : CharSamples) : s.TiersBecome (s.takeChar fall c) := by
  simp only [State.takeChar]; split
  · exact .between (s.onLink_keepsTiers _) (State.character_tiers _ _ _) (.refl _)
  · exact .kept ((s.onLink_keepsTiers _).trans (State.onLink_keepsTiers _ _))

/-! ### The completion of a scan (R47) -/

/-- A record evaluates the tiers when it yields an estimate update, and otherwise leaves them (R18, R47). -/
theorem State.estimated_tiers (s : State) (r : ScanRecord) : s.TiersBecome (s.estimated r).1 := by
  rw [State.TiersBecome, State.sourcePresent, State.sourcePresent, (s.estimated_takesRecord r).power]
  cases update : (s.est.complete r).update with
  | true => rw [(s.estimated_takesTiers r update).1.tiers]; exact .evaluated _ _ _
  | false => rw [((s.estimated_takesEstimate r).quiet update).1]; exact .kept

theorem State.completeScan_tiers (s : State) (f : Scan) (smp : Samples) (ord : CompletionOrder) :
    s.TiersBecome (s.completeScan f smp ord) := by
  have scanned : s.KeepsTiers (s.scanned f smp) :=
    .of_power (s.scanned_sparesEntries f smp).estimate.tiers (by simp only [State.scanned, State.reportIf_power])
  simp only [State.completeScan]
  generalize s.scanned f smp = s1 at scanned ⊢
  obtain ⟨u, v, told, before, taken, after, taken', ends, _⟩ :=
    s1.consume_around (s.scanner.complete f smp).2 (s.scanner.senseFault != (s.scanner.complete f smp).2.senseFault) ord
  have tested : s1.KeepsTiers (if ord.testFirst then s1.dozeTest else s1) := .ite s1.dozeTest_keepsTiers (.refl s1)
  have first : s1.KeepsTiers u :=
    ⟨before.estimate.tiers, by rw [State.sourcePresent, taken.power]; exact tested.source⟩
  rw [ends]
  exact .between (scanned.trans first) (u.estimated_tiers _)
    (.trans (.of_power after.estimate.tiers taken'.power) (v.concluded_keepsTiers told _))

/-! ### The discrete inputs (R51, R135, R136) -/

theorem State.sourceChanged_becomes (s t : State) (h : t.tiers = s.tiers) : s.TiersBecome t.sourceChanged := by
  have changed : s.TiersBecome { t with tiers := t.tiers.suppression t.sourcePresent } := by
    rw [h]; exact .switched _
  exact .between (.refl s) changed (.ite (.resolve (.refl _)) (.refl _))

/-- A debounced change of SHORE or IGN brings the records to the inputs as they now stand, in both orders (R51, R136). -/
theorem State.sourceInput_becomes (s t : State) (first : Bool) (h : t.tiers = s.tiers) :
    s.TiersBecome (t.sourceInput first) := by
  simp only [State.sourceInput]
  split
  · exact State.sourceChanged_becomes s _ ((State.exitDoze_keepsTiers _).tiers.trans h)
  · refine .between (.refl s) ?_ (State.exitDoze_keepsTiers _)
    exact State.sourceChanged_becomes s _ h

theorem State.installInput_becomes (s : State) : s.TiersBecome (s.takeLevel .install).installInput := by
  have level : s.KeepsTiers (s.takeLevel .install) := ⟨rfl, rfl⟩
  unfold State.installInput
  exact .kept (level.trans (.ite (.refl _) (State.lapse_keepsTiers _)))

theorem Pin.raise_deb (now : Nat) (low : Bool) (x : Pin) : (x.raise now low).deb = x.deb := by
  unfold Pin.raise; split <;> rfl

/-- A raw change leaves the debounced states as they stand (R135). -/
theorem State.setPin_keepsTiers (s : State) (i : Input) (x : Pin) (h : x.deb = (s.power.pin i).deb) :
    s.KeepsTiers { s with power := s.power.setPin i x } := by
  refine ⟨rfl, ?_⟩
  cases i <;> simp only [State.sourcePresent, Power.setPin, h] <;> rfl

/-- Every command makes of the Tier Monitor one of its changes, or leaves it. -/
theorem exec_tiers (c : Instr) (s t : State) (h : exec c s = .next t) : s.TiersBecome t := by
  cases c
  case ident => exact State.request_tiers ansIdent_tiers h
  case status => exact State.request_tiers ansStatus_tiers h
  case loadStatus => exact State.request_tiers ansLoadStatus_tiers h
  case linkStatus => exact State.request_tiers ansLinkStatus_tiers h
  case countersRead => exact State.request_tiers ansCountersRead_tiers h
  case measure => exact State.request_tiers ansMeasure_tiers h
  case switch => exact State.request_tiers ansSwitch_tiers h
  case hold => exact State.request_tiers ansHold_tiers h
  case releaseHold => exact State.request_tiers ansReleaseHold_tiers h
  case force => exact State.request_tiers ansForce_tiers h
  case clearTrip => exact State.request_tiers ansClearTrip_tiers h
  case clearUsage => exact State.request_tiers ansClearUsage_tiers h
  case ack => exact State.request_tiers ansAck_tiers h
  case mask => exact State.request_tiers ansMask_tiers h
  case countersClear => exact State.request_tiers ansCountersClear_tiers h
  case clearLinkCounts => exact State.request_tiers ansClearLinkCounts_tiers h
  case profileRead => exact State.request_tiers ansProfileRead_tiers h
  case profileWriteBattery => exact State.request_tiers ansWriteBattery_tiers h
  case profileWriteTiers => exact State.request_tiers ansWriteTiers_tiers h
  case profileWriteLoads => exact State.request_tiers ansWriteLoads_tiers h
  case profileWriteCurve => exact State.request_tiers ansWriteCurve_tiers h
  case profileWriteSequence => exact State.request_tiers ansWriteSequence_tiers h
  case profileWriteNotice => exact State.request_tiers ansWriteNotice_tiers h
  case profileWriteCounters => exact State.request_tiers ansWriteCounters_tiers h
  case profileWriteDoze => exact State.request_tiers ansWriteDoze_tiers h
  case move => exact State.request_tiers ansMove_tiers h
  case save => exact State.request_tiers ansSave_tiers h
  case loadDefaults => exact State.request_tiers ansLoadDefaults_tiers h
  case setChargeReserve => exact State.request_tiers ansSetChargeReserve_tiers h
  case setChargeFull => exact State.request_tiers ansSetChargeFull_tiers h
  case doze => exact State.request_tiers ansDoze_tiers h
  case restart => exact State.request_tiers ansRestart_tiers h
  case startBit =>
    refine State.event_tiers (.kept ?_) h
    exact .ite (.refl _) (State.fall_keepsTiers _ _)
  case characterTaken =>
    refine State.event_tiers ?_ h
    split
    · split
      · exact State.takeChar_tiers _ _ _
      · exact .refl _
    · exact .refl _
  case breakHeld | gap => exact State.event_tiers (.kept (.ite (State.onLink_keepsTiers _ _) (.refl _))) h
  case replyStart =>
    refine State.event_tiers (.kept ?_) h
    split
    · exact .ite (State.onLink_keepsTiers _ _) (.refl _)
    · exact .refl _
  case replyEnd dt =>
    refine State.event_tiers (.kept ?_) h
    split
    · have idle := (s.elapse dt).onLink_keepsTiers fun l => { l with rx := .wait, sending := none }
      exact .ite (.ite (idle.trans (State.resetBy_keepsTiers _ _)) idle) (.refl _)
    · exact .refl _
  case linkQuiet =>
    exact State.event_tiers (.kept (.ite ((State.onLink_keepsTiers _ _).trans (State.lapse_keepsTiers _)) (.refl _))) h
  case scanBegin => exact State.event_tiers (.kept (.ite (State.beginScan_keepsTiers _) (.refl _))) h
  case scanComplete =>
    refine State.event_tiers ?_ h
    split
    · split
      · exact State.completeScan_tiers _ _ _ _
      · exact .refl _
    · exact .refl _
  case rawInputChange dt i low =>
    cases h
    refine .kept ((s.elapse_keepsTiers dt).trans (State.setPin_keepsTiers _ i _ ?_))
    split
    · rfl
    · exact Pin.raise_deb _ _ _
  case debouncedChange dt i first =>
    refine State.event_tiers ?_ h
    split
    · cases i with
      | shore | ign => exact State.sourceInput_becomes _ _ first rfl
      | install => exact State.installInput_becomes _
    · exact .refl _
  case powerOn | supplyLow | rstn =>
    cases h; exact .kept ((s.elapse_keepsTiers _).trans (State.resetBy_keepsTiers _ _))
  case resetEnd dt adr br =>
    cases hr : s.inReset with
    | none =>
      have idle : exec (.resetEnd dt adr br) s = .next (s.elapse dt) := by simp [exec, execResetEnd, hr]
      rw [idle] at h; cases h; exact .kept (s.elapse_keepsTiers dt)
    | some r =>
      obtain ⟨p, source, ends, loaded⟩ := exec_resetEnd dt adr br s r hr
      rw [ends] at h; cases h
      rw [State.TiersBecome, State.takesUp_tiers, State.sourcePresent, State.sourcePresent, State.takesUp_power]
      exact .restarted p (Profile.Loads.of_loadable loaded) _
  case retryExpiry =>
    exact State.event_tiers (.kept (.ite (.resolveOutputs (State.setChan_keepsTiers _ _ _)) (.refl _))) h
  case goodRun | blankingEnd => exact State.event_tiers (.kept (.ite (State.setChan_keepsTiers _ _ _) (.refl _))) h
  case runLockExpiry => exact State.event_tiers (.kept (.ite (.resolve (State.setChan_keepsTiers _ _ _)) (.refl _))) h
  case restLockExpiry =>
    exact State.event_tiers (.kept (.ite (.resolve ((State.setChan_keepsTiers _ _ _).moves (State.derive_moves _)))
      (.refl _))) h
  case shedSpacingEnd | restoreSpacingEnd | settleTimeEnd =>
    exact State.event_tiers (.kept (.ite (.resolve (.refl _)) (.refl _))) h
  case holdExpiry =>
    refine State.event_tiers (.kept (.ite (.resolve (.report ?_ _ _)) (.refl _))) h
    exact .of_power rfl rfl
  case saveEnd =>
    refine State.event_tiers (.kept ?_) h
    split
    · exact .of_power rfl rfl
    · exact .refl _

/-- A step makes of the Tier Monitor one of its changes, or leaves it. -/
theorem step_tiers (s t : State) (h : step s = .next t) : s.TiersBecome t := by
  unfold step at h
  split at h
  · cases h; exact .refl s
  · rename_i c rest _
    exact exec_tiers c { s with pending := rest } t h

/-! ### The law (R58) -/

/-- Settles O5: a step makes of the Tier Monitor one of its changes (`step_tiers`), each of which keeps the law
(`TierMonitor.Law.becomes`); R58's sentence is the formation of the depth (`depthOf_cutoff`, `depthOf_highest`). -/
theorem everyStepKeepsTheTierLaw : Obligations.EveryStepKeepsTheTierLaw := by
  intro s t law h
  have kept : t.TierLaw := t.tierLaw_iff.2 ((s.tierLaw_iff.1 law).becomes (step_tiers s t h))
  obtain ⟨above, reached⟩ := depthOf_highest t.tiers.recs
  simp only [TierRecord.calls_iff] at above reached
  refine ⟨kept, ?_⟩
  rw [kept.depth]
  exact ⟨fun called => depthOf_cutoff _ ((TierRecord.calls_iff _).2 called), fun _ => ⟨above, reached⟩⟩

end Sys2Proof.Machine
end

section
/-! PROOFS. A write to a tier. -/

namespace Sys2Proof.Machine

@[simp] theorem Measure.ofCode_code (m : Measure) : Measure.ofCode m.code = some m := by cases m <;> rfl
@[simp] theorem flagOf_bitIf (b : Bool) : flagOf (bitIf b 1) = some b := by cases b <;> rfl

/-- The eight characters of a tier's settings are read as those settings (R45, R150). -/
theorem ansWriteTiers_field (s : State) (k : Fin 4) (w : TierSettings) (h1 : w.falling < 65536) (h2 : w.rising < 65536)
    (h3 : w.confirm < 256) (h4 : w.release < 256) (install : s.power.install.deb = true) (idle : s.isSaving = false) :
    ansWriteTiers ((u8 (k.val + 1) ++ w.field).map BitVec.toNat) s =
      (s.writeTier k.castSucc w.clamp).accept (clampedIf (decide ¬w.clamp = w)) (u8 (k.val + 1) ++ w.clamp.field) := by
  have index : (k.val + 1) % 256 = k.val + 1 := by omega
  have code : w.measure.code % 256 = w.measure.code := by cases w.measure <;> rfl
  have flag : bitIf w.suppress 1 % 256 = bitIf w.suppress 1 := by cases w.suppress <;> rfl
  have tier : k.castSucc ≠ 4 := (Fin.castSucc_lt_last k).ne
  have parsed : parseTier k.castSucc w.measure.code (w.falling / 256 % 256) (w.falling % 256) (w.rising / 256 % 256)
      (w.rising % 256) w.confirm w.release (bitIf w.suppress 1) = some w := by
    simp [parseTier, tier, be16_split, h1, h2]
  have place : (⟨k.val + 1 - 1, by omega⟩ : Fin 5) = k.castSucc := Fin.ext (Nat.add_sub_cancel _ _)
  simp only [TierSettings.field, List.map_append, u8_map, u16_map, List.cons_append, List.nil_append, index, code, flag,
    Nat.mod_eq_of_lt h3, Nat.mod_eq_of_lt h4, ansWriteTiers]
  rw [dif_pos (by omega)]
  simp only [place, parsed]
  exact State.whenInstaller_granted _ _ install idle

/-! ### What a write leaves of the record (R53, R54, R55) -/

/-- Without a change of measure, a record whose suppression conditions stay as they are keeps its state and count (R53, R55). -/
theorem TierRecord.Law.write_same {r : TierRecord} {source : Bool} (h : r.Law source) (cfg : TierSettings)
    (measure : cfg.measure = r.cfg.measure)
    (stays : source = false ∨ cfg.suppress = r.cfg.suppress ∨ cfg.measure = .off) :
    r.write cfg source = { r with cfg := cfg } := by
  have suppressed := h.suppressed
  rw [TierRecord.write_eq, if_pos measure, TierRecord.suppression]
  simp only
  rcases stays with absent | flag | off
  · have before : r.st ≠ .suppressed := by simp [suppressed, absent]
    simp [absent, before]
  · by_cases off : cfg.measure = .off
    · rw [if_pos off]
    · rw [if_neg off, flag]
      rw [← measure] at suppressed
      cases both : (r.cfg.suppress && source) with
      | true =>
        have before : r.st = .suppressed := suppressed.2 ⟨off, Bool.and_eq_true_iff.1 both⟩
        simp [before]
      | false =>
        have before : r.st ≠ .suppressed := by simpa [suppressed, off] using both
        simp [before]
  · rw [if_pos off]

/-- Setting or clearing the suppress flag while SHORE or IGN is asserted puts a tier in SUPPRESSED or in CLEAR (R55). -/
theorem TierRecord.Law.write_flipped {r : TierRecord} (h : r.Law true) (cfg : TierSettings)
    (measure : cfg.measure = r.cfg.measure) (on : cfg.measure ≠ .off) (flips : cfg.suppress ≠ r.cfg.suppress) :
    r.write cfg true = { r with cfg := cfg }.go (if cfg.suppress then .suppressed else .clear) 0 := by
  have suppressed := h.suppressed
  rw [TierRecord.write_eq, if_pos measure, TierRecord.suppression, if_neg on]
  cases flag : cfg.suppress with
  | true =>
    have before : r.st ≠ .suppressed := by simp_all
    simp [before]
  | false =>
    have before : r.st = .suppressed := by simp_all
    simp [before]

/-- A write to a tier changes the Tier Monitor, and what the Sequencer makes of it (R59). -/
theorem State.writeTier_moves (s : State) (k : Fin 5) (cfg : TierSettings) :
    State.Moves { s with tiers := s.tiers.write k cfg s.sourcePresent } (s.writeTier k cfg) := by
  simp only [State.writeTier]
  split
  · exact State.resolve_moves _
  · exact .refl _

/-- Settles O34: the characters are read as the settings written (`ansWriteTiers_field`), and the tier is written
(`TierRecord.write_eq`); what follows is a move of the Sequencer (`State.writeTier_moves`). -/
theorem tierWriteKeepsOrRestartsTheTier : Obligations.TierWriteKeepsOrRestartsTheTier := by
  intro dt tag s k w hears law install idle h1 h2 h3 h4 source old
  have runs := State.request_answered s dt 0x31 tag _ ansWriteTiers hears (by decide)
    (ansWriteTiers_field (s.taken dt) k w h1 h2 h3 h4 (by simpa using install) (by simpa using idle))
  have moves := (s.taken dt).writeTier_moves k.castSucc w.clamp
  simp only [State.taken_tiers, State.taken_sourcePresent] at moves
  rw [clampedIf_eq] at runs
  simp only [State.accept] at runs
  generalize (s.taken dt).writeTier k.castSucc w.clamp = u at moves runs
  have written (j : Fin 5) : u.tiers.recs[j] =
      if j = k.castSucc then s.tiers.recs[j].write w.clamp source else s.tiers.recs[j] := by
    rw [moves.tiers]; exact s.tiers.write_get _ _ _ j
  have record : u.tiers.recs[k.val] = old.write w.clamp source := (written k.castSucc).trans (if_pos rfl)
  have before : old.Law source := law.records k.castSucc
  refine ⟨_, runs, ?_⟩
  simp only [State.answered_tiers, State.answered_chans, State.answered_holds, record]
  refine ⟨TierRecord.write_cfg _ _ _, fun j apart => ?_, fun other => ?_, fun same => ?_, fun same stays => ?_,
    fun same on present flips => ?_, ?_, fun i => ?_, ?_, ?_, State.answered_replies _ _ _ _ _⟩
  · rw [written, if_neg (fun e => apart (congrArg Fin.val e))]
  · rw [TierRecord.write_eq, if_neg (by exact other), TierRecord.fresh_eq]; exact ⟨rfl, rfl, rfl⟩
  · rw [TierRecord.write_eq, if_pos (by exact same), TierRecord.suppression_conf]
  · rw [before.write_same w.clamp same stays]; exact ⟨rfl, rfl⟩
  · rw [present] at before ⊢
    rw [before.write_flipped w.clamp same on flips]; exact ⟨rfl, rfl⟩
  · rw [moves.tiers]; rfl
  · simpa using (moves.chans i).keeps
  · rw [moves.holds]; exact s.taken_holds dt
  · have spares := moves.spares.answered 0x31 tag (if w.clamp = w then .ok else .clamped) (u8 (k.val + 1) ++ w.clamp.field)
    exact ⟨spares.inReset, spares.scanner, spares.est, rfl, spares.order, spares.sequence, spares.settleStart,
      spares.power, spares.notices, spares.store, spares.selectors, spares.pending⟩

end Sys2Proof.Machine
end

section
/-! PROOFS. What leaves the loads alone, and what runs them without a change of settings and without leaving LATCHED. -/

namespace Sys2Proof.Machine

/-! ### The outputs as the law says (R71, R144) -/

theorem State.lawful_iff (s : State) : s.lawful = true ↔ ∀ i : Ch, s.chans[i].out = s.chans[i].law := by
  simp only [State.lawful, channels, List.all_eq_true, List.mem_finRange, beq_iff_eq, forall_const]
  exact forall_congr' fun _ => eq_comm

theorem State.outputLaw_awake {s : State} (h : s.inReset = none) : s.OutputLaw ↔ s.lawful = true := by
  simp [State.OutputLaw, State.lawful_iff, h]

theorem State.outputLaw_reset {s : State} (h : s.inReset.isSome = true) :
    s.OutputLaw ↔ ∀ i : Ch, s.chans[i].out = false := by
  have some' : s.inReset.isNone = false := by rw [← Option.not_isSome, h]; rfl
  simp [State.OutputLaw, some']

/-- A source of reset leaves every output low (R91, R144). -/
theorem State.resetBy_outputLaw (s : State) (src : ResetSource) (h : s.OutputLaw) : (s.resetBy src).OutputLaw := by
  cases hr : s.inReset with
  | none =>
    refine (State.outputLaw_reset ?_).2 fun i => ?_ <;> simp [State.resetBy, hr, State.startReset]
  | some r =>
    have low := (State.outputLaw_reset (s := s) (by rw [hr]; rfl)).1 h
    rw [s.resetBy_again src r hr]
    exact (State.outputLaw_reset rfl).2 low

/-! ### What leaves the loads alone -/

/-- The channels and the reset in progress stand. -/
structure State.KeepsLoads (s t : State) : Prop where
  chans : t.chans = s.chans
  inReset : t.inReset = s.inReset

namespace State.KeepsLoads

theorem refl (s : State) : s.KeepsLoads s := ⟨rfl, rfl⟩

theorem trans {s t u : State} (h : s.KeepsLoads t) (k : t.KeepsLoads u) : s.KeepsLoads u :=
  ⟨k.chans.trans h.chans, k.inReset.trans h.inReset⟩

theorem ite {s t u : State} {p : Prop} [Decidable p] (h : s.KeepsLoads t) (k : s.KeepsLoads u) :
    s.KeepsLoads (if p then t else u) := by
  split
  · exact h
  · exact k

theorem report {s t : State} (h : s.KeepsLoads t) (k : EventKind) (l : List Nat) : s.KeepsLoads (t.report k l) :=
  h.trans ⟨by simp, by simp⟩

theorem outputLaw {s t : State} (h : s.KeepsLoads t) : t.OutputLaw ↔ s.OutputLaw := by
  simp only [State.OutputLaw, h.chans, h.inReset]

end State.KeepsLoads

theorem State.onLink_keepsLoads (s : State) (f : Link → Link) : s.KeepsLoads (s.onLink f) := ⟨rfl, rfl⟩
theorem State.elapse_keepsLoads (s : State) (dt : Nat) : s.KeepsLoads (s.elapse dt) := ⟨rfl, rfl⟩
theorem State.dropHolds_keepsLoads (s : State) (p : Ch → Bool) : s.KeepsLoads (s.dropHolds p) := ⟨rfl, rfl⟩
theorem State.dropReply_keepsLoads (s : State) : s.KeepsLoads s.dropReply := .ite (s.onLink_keepsLoads _) (.refl s)
theorem State.beginChar_keepsLoads (s : State) (start : Sample3) : s.KeepsLoads (s.beginChar start) :=
  .ite (s.onLink_keepsLoads _) (s.onLink_keepsLoads _)
theorem State.address_keepsLoads (s : State) (a : Nat) : s.KeepsLoads (s.address a) :=
  .ite (s.onLink_keepsLoads _) (.refl s)
theorem State.enterDoze_keepsLoads (s : State) : s.KeepsLoads s.enterDoze := ⟨by simp, by simp⟩
theorem State.dozeTest_keepsLoads (s : State) : s.KeepsLoads s.dozeTest := .ite s.enterDoze_keepsLoads (.refl s)
theorem State.evaluateTiers_keepsLoads (s : State) (r : ScanRecord) : s.KeepsLoads (s.evaluateTiers r).1 := by
  simp only [State.evaluateTiers, State.reportIf]
  refine .report (.report ?_ _ _) _ _
  exact ⟨rfl, rfl⟩
theorem State.scanned_keepsLoads (s : State) (f : Scan) (smp : Samples) : s.KeepsLoads (s.scanned f smp) := by
  simp only [State.scanned, State.reportIf]
  refine .report ?_ _ _
  exact ⟨rfl, rfl⟩

/-! ### What runs the loads -/

/-- One channel keeps its settings and does not leave LATCHED (R84). -/
structure Chan.Runs (c d : Chan) : Prop where
  cfg : d.cfg = c.cfg
  latched : c.prot = .latched → d.prot = .latched

theorem Chan.Runs.refl (c : Chan) : c.Runs c := ⟨rfl, id⟩

theorem Chan.Runs.trans {c d e : Chan} (h : c.Runs d) (k : d.Runs e) : c.Runs e :=
  ⟨k.cfg.trans h.cfg, k.latched ∘ h.latched⟩

theorem Chan.Moves.runs {c d : Chan} (h : c.Moves d) : c.Runs d := ⟨h.cfg, fun latched => h.prot.trans latched⟩

/-- A part of a command that runs every channel and leaves lawful outputs lawful. -/
structure State.Runs (s t : State) : Prop where
  inReset : t.inReset = s.inReset
  chans : ∀ i : Ch, s.chans[i].Runs t.chans[i]
  lawful : s.lawful = true → t.lawful = true

theorem State.KeepsLoads.runs {s t : State} (h : s.KeepsLoads t) : s.Runs t :=
  ⟨h.inReset, fun i => by rw [h.chans]; exact .refl _, by simp only [State.lawful_iff, h.chans]; exact id⟩

namespace State.Runs

theorem refl (s : State) : s.Runs s := (KeepsLoads.refl s).runs

theorem trans {s t u : State} (h : s.Runs t) (k : t.Runs u) : s.Runs u :=
  ⟨k.inReset.trans h.inReset, fun i => (h.chans i).trans (k.chans i), k.lawful ∘ h.lawful⟩

theorem ite {s t u : State} {p : Prop} [Decidable p] (h : s.Runs t) (k : s.Runs u) : s.Runs (if p then t else u) := by
  split
  · exact h
  · exact k

/-- Channels that run and keep their outputs and what the law makes of them. -/
theorem of_out {s t : State} (inReset : t.inReset = s.inReset) (chans : ∀ i : Ch, s.chans[i].Runs t.chans[i])
    (out : ∀ i : Ch, t.chans[i].out = s.chans[i].out ∧ t.chans[i].law = s.chans[i].law) : s.Runs t := by
  refine ⟨inReset, chans, ?_⟩
  simp only [State.lawful_iff]
  intro h i
  rw [(out i).1, (out i).2, h i]

/-- Whatever changed before the outputs were settled, they are lawful then (R71). -/
theorem settled {s t : State} (inReset : t.inReset = s.inReset) (chans : ∀ i : Ch, s.chans[i].Runs t.chans[i])
    (n : Nat) : s.Runs (t.settleOutputs n) :=
  ⟨(t.settleOutputs_moves n).inReset.trans inReset,
    fun i => (chans i).trans ((t.settleOutputs_moves n).chans i).runs,
    fun _ => (State.lawful_iff _).2 (t.settleOutputs_lawful n)⟩

theorem resolved {s t : State} (inReset : t.inReset = s.inReset) (chans : ∀ i : Ch, s.chans[i].Runs t.chans[i]) :
    s.Runs t.resolve :=
  settled (t.reconsider_moves.inReset.trans inReset) (fun i => (chans i).trans (t.reconsider_moves.chans i).runs) _

theorem derived {s t : State} (inReset : t.inReset = s.inReset) (chans : ∀ i : Ch, s.chans[i].Runs t.chans[i]) :
    s.Runs t.derive := settled inReset chans 0

theorem resolve {s t : State} (h : s.Runs t) : s.Runs t.resolve := resolved h.inReset h.chans

theorem report {s t : State} (h : s.Runs t) (k : EventKind) (l : List Nat) : s.Runs (t.report k l) :=
  h.trans ((KeepsLoads.refl t).report k l).runs

/-- A change of one channel before the outputs are settled. -/
theorem setChan (s : State) (i : Ch) {c : Chan} (h : s.chans[i].Runs c) (j : Ch) : s.chans[j].Runs (s.setChan i c).chans[j] := by
  rw [State.setChan_get]; split
  · rename_i e; rw [e]; exact h
  · exact .refl _

end State.Runs

section
variable (s : State)

/-! #### Requests (R76, R77, R122, R125, R129) -/

theorem State.switchOn_runs (set : Nat) : s.Runs (s.switchOn set) := by
  refine .ite (.resolved (by simp) fun i => ?_) (.refl s)
  refine .trans ?_ ((State.markEach_moves _ _).chans i).runs
  rw [State.mapChans_get]; split <;> exact ⟨rfl, id⟩

theorem State.switchOff_runs (set : Nat) : s.Runs (s.switchOff set) := by
  refine .ite (.resolved (by simp) fun i => ?_) (.refl s)
  rw [State.dropHolds_chans, State.mapChans_get]
  split
  · refine ⟨?_, fun latched => ?_⟩
    · dsimp only; split <;> rfl
    · rw [if_neg (by rw [latched]; decide)]; exact latched
  · exact .refl _

theorem State.placeNew_runs (i : Ch) (minutes : Nat) : s.Runs (s.placeNew i minutes) := by
  refine .resolve (t := { s with holds := _ }) (KeepsLoads.runs ⟨rfl, rfl⟩)

theorem State.release_runs (i : Ch) : s.Runs (s.release i) := .ite (.resolve (s.dropHolds_keepsLoads _).runs) (.refl s)

theorem State.setForce_runs (i : Ch) (f : Force) : s.Runs (s.setForce i f) :=
  .ite (.refl s) (.resolved rfl (State.Runs.setChan s i ⟨rfl, id⟩))

theorem State.clearUsage_runs (set : Nat) : s.Runs (s.clearUsage set) := by
  refine .of_out (by simp) (fun i => ?_) fun i => ?_ <;> rw [State.clearUsage, State.mapChans_get] <;> split
  exacts [⟨rfl, id⟩, .refl _, ⟨rfl, rfl⟩, ⟨rfl, rfl⟩]

theorem State.writeTier_runs (k : Fin 5) (cfg : TierSettings) : s.Runs (s.writeTier k cfg) := by
  have written : s.Runs { s with tiers := s.tiers.write k cfg s.sourcePresent } := KeepsLoads.runs ⟨rfl, rfl⟩
  exact .ite written.resolve written

theorem State.setSequence_runs (cfg : SequenceSettings) : s.Runs (s.setSequence cfg) :=
  .ite (.refl s) (.resolve (t := { s with seq := _ }) (KeepsLoads.runs ⟨rfl, rfl⟩))

theorem State.setOrder_runs (order : List Ch) : s.Runs (s.setOrder order) :=
  .ite (.refl s) (.resolve (t := { s with seq := _ }) (KeepsLoads.runs ⟨rfl, rfl⟩))

/-! #### Power, force lapse and the discrete inputs (R6, R132, R136) -/

theorem State.beginScan_runs : s.Runs s.beginScan := by
  refine .of_out (by simp) (fun i => ?_) fun i => ?_ <;> rw [State.beginScan_get]
  · exact ⟨rfl, id⟩
  · exact ⟨rfl, rfl⟩

theorem State.exitDoze_runs : s.Runs s.exitDoze := by
  have left : s.Runs { s with
      power := { s.power with st := .run, lastExit := s.now }, scanner := { s.scanner with timer := none } } :=
    KeepsLoads.runs ⟨rfl, rfl⟩
  exact .ite (.ite (left.trans (State.beginScan_runs _)) left) (.refl s)

theorem State.lapse_runs : s.Runs s.lapse := by
  refine .ite (.resolved (by simp) fun i => ?_) (.refl s)
  rw [State.reportIf_chans, State.clearForces_get]; exact ⟨rfl, id⟩

theorem State.sourceChanged_runs : s.Runs s.sourceChanged := by
  have changed : s.Runs { s with tiers := s.tiers.suppression s.sourcePresent } := KeepsLoads.runs ⟨rfl, rfl⟩
  exact .ite changed.resolve changed

theorem State.sourceInput_runs (first : Bool) : s.Runs (s.sourceInput first) := by
  have noticed : s.Runs { s with notices := s.notices.edge .input true } := KeepsLoads.runs ⟨rfl, rfl⟩
  exact .ite ((noticed.trans (State.exitDoze_runs _)).trans (State.sourceChanged_runs _))
    ((noticed.trans (State.sourceChanged_runs _)).trans (State.exitDoze_runs _))

theorem State.installInput_runs : s.Runs s.installInput := .ite (.refl s) s.lapse_runs

end

end Sys2Proof.Machine
end

section
/-! PROOFS. What the completion of a scan does to the channels. -/

namespace Sys2Proof.Machine

/-! ### One channel at a completion (R80, R87, R88) -/

theorem Chan.use_eq (n k : Nat) (c : Chan) : c.use n k = { c with usage := (c.use n k).usage } := by
  unfold Chan.use; split <;> rfl

theorem Chan.checkOpen_eq (now n : Nat) (c : Chan) : (c.checkOpen now n).1 =
    { c with openRun := (c.checkOpen now n).1.openRun, openFlag := (c.checkOpen now n).1.openFlag } := by
  unfold Chan.checkOpen; split_ifs <;> rfl

/-- A channel that does not trip keeps all but its usage, its over-count and its open-load state (R80, R87, R88). -/
theorem Chan.treat_untripped (now n k : Nat) (c : Chan) (h : (c.treat now n k).tripped = false) :
    ∃ usage overCount openRun openFlag, (c.treat now n k).chan =
      { c with usage := usage, overCount := overCount, openRun := openRun, openFlag := openFlag } := by
  simp only [Chan.treat, Chan.protect] at h ⊢
  split
  · rename_i trips; simp only [if_pos trips] at h; cases h
  · rw [Chan.checkOpen_eq, Chan.use_eq]; exact ⟨_, _, _, _, rfl⟩

theorem Chan.trip_cfg (now n : Nat) (c : Chan) : (c.trip now n).cfg = c.cfg := by
  simp only [Chan.trip]; split <;> rfl

/-- A completion leaves the settings, and no channel leaves LATCHED by it: only a channel in NORMAL is judged (R80). -/
theorem Chan.treat_runs (now n k : Nat) (c : Chan) : c.Runs (c.treat now n k).chan := by
  cases h : (c.treat now n k).tripped with
  | false => obtain ⟨_, _, _, _, e⟩ := c.treat_untripped now n k h; rw [e]; exact ⟨rfl, id⟩
  | true =>
    simp only [Chan.treat, Chan.protect] at h ⊢
    split at h
    · rename_i trips
      rw [if_pos trips, Chan.checkOpen_eq]
      refine ⟨?_, fun latched => ?_⟩
      · simp only [Chan.trip_cfg]; rw [Chan.use_eq]
      · have normal := (Bool.and_eq_true_iff.1 trips.1).1
        rw [Chan.use_eq] at normal
        simp [Chan.judged, latched] at normal
    · cases h

/-! ### The completion (R14) -/

theorem State.onFault_runs (s : State) (b : Bool) : s.Runs (s.onFault b) := .ite (State.Runs.refl s).resolve (.refl s)

theorem State.estimated_runs (s : State) (r : ScanRecord) : s.Runs (s.estimated r).1 := by
  have formed (q : Sequencer) : s.KeepsLoads { s with est := (s.est.complete r).est, seq := q } := ⟨rfl, rfl⟩
  have reported (q : Sequencer) := ((formed q).report .restCorrection (if (s.est.complete r).restEvent then [0] else [])).report
    .fullResync (if (s.est.complete r).fullEvent then [0] else [])
  simp only [State.estimated, State.reportIf]; split
  · have evaluated (q : Sequencer) := ((reported q).trans (State.evaluateTiers_keepsLoads _ r)).runs
    exact .ite (evaluated _).resolve (evaluated _)
  · exact (reported _).runs

/-- The Channel Controller treats every channel and sets its notices; the clock, the reset in progress, the Tier Monitor and the
Sequencer stand until a trip is resolved (R80, R81, R84, R117). -/
theorem State.controlled_treats (s : State) (r : ScanRecord) : ∃ u : State,
    (u.now = s.now ∧ u.inReset = s.inReset ∧ u.tiers = s.tiers ∧ u.seq = s.seq) ∧
    (∀ i : Ch, u.chans[i] = (s.chans[i].treat s.now r.currents[i] r.power.factor).chan) ∧
    u.notices = (s.notices.edge .trip
      (channels.any fun i => (s.chans[i].treat s.now r.currents[i] r.power.factor).tripped)).level .latch s.latchCondition
        u.latchCondition ∧
    (s.controlled r).1 =
      if channels.any fun i => (s.chans[i].treat s.now r.currents[i] r.power.factor).tripped then u.resolve else u := by
  refine ⟨_, ?_, ?_, ?_, by simp only [State.controlled, Fin.getElem_fin, Vector.getElem_ofFn]; rfl⟩
  · simp only [State.report_now, State.report_inReset, State.report_tiers, State.report_seq, and_self]
  · intro i; simp only [State.report_chans, Fin.getElem_fin, Vector.getElem_ofFn]
  · simp only [State.latchCondition, State.report_chans, State.report_notices, Fin.getElem_fin, Vector.getElem_ofFn]

/-- Where no channel trips every output stands as it stood, and a trip has the outputs settled (R80, R81, R117). -/
theorem State.controlled_runs (s : State) (r : ScanRecord) : s.Runs (s.controlled r).1 := by
  obtain ⟨u, ⟨_, inReset, _, _⟩, chans, _, e⟩ := s.controlled_treats r
  have runs : ∀ i : Ch, s.chans[i].Runs u.chans[i] := fun i => by rw [chans]; exact Chan.treat_runs _ _ _ _
  rw [e]; split
  · exact .resolved inReset runs
  · rename_i untripped
    refine .of_out inReset runs fun i => ?_
    obtain ⟨_, _, _, _, still⟩ := Chan.treat_untripped s.now r.currents[i] r.power.factor s.chans[i] (by
      simpa using (List.any_eq_false.1 (eq_false_of_ne_true untripped)) i (List.mem_finRange i))
    rw [chans, still]; exact ⟨rfl, rfl⟩

theorem State.concluded_runs (s : State) (told testFirst : Bool) : s.Runs (s.concluded told testFirst) := by
  have left : s.Runs (if told then s.exitDoze else s) := .ite s.exitDoze_runs (.refl s)
  simp only [State.concluded]
  generalize (if told then s.exitDoze else s) = t at left ⊢
  have tested : s.Runs (if testFirst then t else t.dozeTest) := .ite left (left.trans t.dozeTest_keepsLoads.runs)
  generalize (if testFirst then t else t.dozeTest) = u at tested ⊢
  exact .ite (tested.trans u.beginScan_runs) tested

/-- In every order the blocks that take a record run the loads (R14, R119, R140). -/
theorem State.consume_runs (s : State) (r : ScanRecord) (changed : Bool) (ord : CompletionOrder) :
    s.Runs (s.consume r changed ord) := by
  suffices h : ∃ told t, s.Runs t ∧ s.consume r changed ord = t.concluded told ord.testFirst by
    obtain ⟨told, t, runs, e⟩ := h
    rw [e]; exact runs.trans (t.concluded_runs told _)
  obtain ⟨faultFirst, controllerFirst, testFirst⟩ := ord
  have tested : s.Runs (if testFirst then s.dozeTest else s) := .ite s.dozeTest_keepsLoads.runs (.refl s)
  generalize hs : (if testFirst then s.dozeTest else s) = s1 at tested
  simp only [State.consume, hs]
  cases faultFirst <;> cases controllerFirst <;> simp only [if_true, if_false, Bool.false_eq_true]
  · exact ⟨_, _, ((tested.trans (s1.estimated_runs r)).trans (State.controlled_runs _ r)).trans
      (State.onFault_runs _ changed), rfl⟩
  · exact ⟨_, _, ((tested.trans (s1.controlled_runs r)).trans (State.estimated_runs _ r)).trans
      (State.onFault_runs _ changed), rfl⟩
  · exact ⟨_, _, ((tested.trans (s1.onFault_runs changed)).trans (State.estimated_runs _ r)).trans
      (State.controlled_runs _ r), rfl⟩
  · exact ⟨_, _, ((tested.trans (s1.onFault_runs changed)).trans (State.controlled_runs _ r)).trans
      (State.estimated_runs _ r), rfl⟩

theorem State.completeScan_runs (s : State) (f : Scan) (smp : Samples) (ord : CompletionOrder) :
    s.Runs (s.completeScan f smp ord) :=
  (s.scanned_keepsLoads f smp).runs.trans (State.consume_runs _ _ _ ord)

end Sys2Proof.Machine
end

section
/-! PROOFS. What a command can make of the loads: the outputs stay as the law says, and LATCHED is left by its three causes. -/

namespace Sys2Proof.Machine

/-- A channel that stands LATCHED and fitted is LATCHED yet, or has been made unfitted (R84). -/
def Chan.HoldsLatch (c d : Chan) : Prop :=
  c.cfg.fitted = true → c.prot = .latched → d.prot = .latched ∨ d.cfg.fitted = false

theorem Chan.Runs.holdsLatch {c d : Chan} (h : c.Runs d) : c.HoldsLatch d := fun _ latched => .inl (h.latched latched)

/-- What a part of a command outside a reset makes of the loads: the outputs obey their law, and LATCHED is held unless `cleared`
says that the command may end it (R71, R84, R144). -/
structure State.LoadsBecome (cleared : Prop) (s t : State) : Prop where
  outputs : s.inReset = none → s.OutputLaw → t.OutputLaw
  latched : ¬cleared → ∀ i : Ch, s.chans[i].HoldsLatch t.chans[i]

namespace State.LoadsBecome

variable {cleared : Prop}

theorem runs {s t : State} (h : s.Runs t) : s.LoadsBecome cleared t where
  outputs awake law := (State.outputLaw_awake (h.inReset.trans awake)).2 (h.lawful ((State.outputLaw_awake awake).1 law))
  latched _ i := (h.chans i).holdsLatch

theorem kept {s t : State} (h : s.KeepsLoads t) : s.LoadsBecome cleared t := runs h.runs

theorem refl (s : State) : s.LoadsBecome cleared s := runs (.refl s)

/-- What keeps the loads before and behind a change does not bear on it. -/
theorem between {s t u v : State} (before : s.KeepsLoads t) (h : t.LoadsBecome cleared u) (after : u.KeepsLoads v) :
    s.LoadsBecome cleared v where
  outputs awake law := after.outputLaw.2 (h.outputs (before.inReset.trans awake) (before.outputLaw.2 law))
  latched held i := by rw [← before.chans, after.chans]; exact h.latched held i

/-- A reset that follows turns every output off, and leaves every channel's settings and protection (R91, R142). -/
theorem resetBy {s t : State} (h : s.LoadsBecome cleared t) (src : ResetSource) : s.LoadsBecome cleared (t.resetBy src) where
  outputs awake law := t.resetBy_outputLaw src (h.outputs awake law)
  latched held i := by
    have chan : (t.resetBy src).chans[i].prot = t.chans[i].prot ∧ (t.resetBy src).chans[i].cfg = t.chans[i].cfg := by
      unfold State.resetBy; split <;> simp [State.startReset]
    rw [Chan.HoldsLatch, chan.1, chan.2]; exact h.latched held i

/-- A change after which the outputs have been settled. -/
theorem settled {s t : State} (lawful : t.lawful = true) (inReset : t.inReset = s.inReset)
    (latched : ¬cleared → ∀ i : Ch, s.chans[i].HoldsLatch t.chans[i]) : s.LoadsBecome cleared t where
  outputs awake _ := (State.outputLaw_awake (inReset.trans awake)).2 lawful
  latched := latched

theorem ite {s t u : State} {p : Prop} [Decidable p] (h : s.LoadsBecome cleared t) (k : s.LoadsBecome cleared u) :
    s.LoadsBecome cleared (if p then t else u) := by
  split
  · exact h
  · exact k

end State.LoadsBecome

/-! ### CLEAR_TRIP and changes of load settings (R66, R69, R70, R85) -/

theorem State.clearTrips_loads {cleared : Prop} (s : State) (set : Nat) (h : cleared) :
    s.LoadsBecome cleared (s.clearTrips set) := by
  refine .settled ((State.lawful_iff _).2 fun i => ?_) ?_ fun held => absurd h held
  · simp only [State.clearTrips]; exact State.resolveOutputs_lawful _ i
  · simp only [State.clearTrips, (State.resolveOutputs_moves _).inReset, State.mapChans_inReset]

theorem Chan.write_cfg (c : Chan) (cfg : LoadSettings) : (c.write cfg).cfg = cfg := by
  simp only [Chan.write]; split_ifs <;> rfl

/-- New settings end LATCHED only by making the channel not fitted (R69, R84). -/
theorem Chan.write_holdsLatch (c : Chan) (cfg : LoadSettings) : c.HoldsLatch (c.write cfg) := by
  intro fitted latched
  cases new : cfg.fitted with
  | false => right; rw [Chan.write_cfg, new]
  | true => left; simp only [Chan.write, fitted, new]; split <;> exact latched

/-- Settings that act on no shedding leave the state of their channel (R67). -/
theorem Chan.write_idle (c : Chan) (cfg : LoadSettings) (h : c.cfg.actsOnShedding cfg = false) :
    c.write cfg = { c with cfg := cfg } := by
  simp only [LoadSettings.actsOnShedding, Bool.or_eq_false_iff, bne_eq_false_iff_eq, decide_eq_false_iff_not,
    not_not] at h
  simp only [Chan.write, ← h.1.1, ← h.1.2]
  cases c.cfg.fitted <;> simp

theorem State.writeLoads_get (s : State) (new : Ch → LoadSettings) (i : Ch) :
    (s.writeLoads new).chans[i] = s.chans[i].write (new i) := by
  simp [State.writeLoads]

theorem State.writeLoads_inReset (s : State) (new : Ch → LoadSettings) : (s.writeLoads new).inReset = s.inReset := by
  simp [State.writeLoads]

/-- A channel that holds LATCHED through a change holds it through the Sequencer's moves that follow. -/
theorem Chan.HoldsLatch.moves {c d e : Chan} (h : c.HoldsLatch d) (k : d.Moves e) : c.HoldsLatch e := by
  rw [Chan.HoldsLatch, k.prot, k.cfg]; exact h

theorem State.setLoads_loads {cleared : Prop} (s : State) (new : Ch → LoadSettings) :
    s.LoadsBecome cleared (s.setLoads new) := by
  have holds (i : Ch) : s.chans[i].HoldsLatch (s.writeLoads new).chans[i] := by
    rw [State.writeLoads_get]; exact Chan.write_holdsLatch _ _
  simp only [State.setLoads]
  split
  · exact .settled ((State.lawful_iff _).2 (State.resolve_lawful _))
      ((State.resolve_moves _).inReset.trans (s.writeLoads_inReset new))
      fun _ i => (holds i).moves ((State.resolve_moves _).chans i)
  · rename_i idle
    refine ⟨fun awake law i => ?_, fun _ => holds⟩
    have still := List.any_eq_false.1 (eq_false_of_ne_true idle) i (List.mem_finRange i)
    have fitted : (new i).fitted = s.chans[i].cfg.fitted := by
      simp only [LoadSettings.actsOnShedding, Bool.not_eq_true, Bool.or_eq_false_iff, bne_eq_false_iff_eq] at still
      exact still.1.1.symm
    rw [State.writeLoads_inReset, State.writeLoads_get, Chan.write_idle _ _ (by simpa using still)]
    simp only [Chan.law, fitted]
    exact law i

/-- LOAD_DEFAULTS writes the factory loads, and the outputs are settled (R175). -/
theorem State.takeProfile_loads {cleared : Prop} (s : State) (p : Profile) :
    s.LoadsBecome cleared (s.takeProfile p).resolve := by
  have chans (i : Ch) : (s.takeProfile p).chans[i] = s.chans[i].write p.loads[i] := by
    simp only [State.takeProfile]; exact s.writeLoads_get (fun i => p.loads[i]) i
  have inReset : (s.takeProfile p).inReset = s.inReset := by
    simp only [State.takeProfile]; exact s.writeLoads_inReset _
  refine .settled ((State.lawful_iff _).2 (State.resolve_lawful _)) ((State.resolve_moves _).inReset.trans inReset)
    fun _ i => Chan.HoldsLatch.moves ?_ ((State.resolve_moves _).chans i)
  rw [chans]; exact Chan.write_holdsLatch _ _

/-! ### The answers to requests (R156, R157) -/

section
variable {cleared : Prop} (p : List Nat) (s : State)

theorem State.whenIdle_loads (a : Answer) (h : s.LoadsBecome cleared a.state) :
    s.LoadsBecome cleared (s.whenIdle a).state := by
  unfold State.whenIdle; split
  · exact .refl s
  · exact h

theorem State.whenInstaller_loads (a : Answer) (h : s.LoadsBecome cleared a.state) :
    s.LoadsBecome cleared (s.whenInstaller a).state := by
  unfold State.whenInstaller; split
  · exact s.whenIdle_loads a h
  · exact .refl s

/-! Readings change nothing. -/

theorem ansIdent_loads : s.LoadsBecome cleared (ansIdent p s).state := by unfold ansIdent; split <;> exact .refl s
theorem ansStatus_loads : s.LoadsBecome cleared (ansStatus p s).state := by unfold ansStatus; split <;> exact .refl s
theorem ansLoadStatus_loads : s.LoadsBecome cleared (ansLoadStatus p s).state := by
  unfold ansLoadStatus; (repeat' split) <;> exact .refl s
theorem ansLinkStatus_loads : s.LoadsBecome cleared (ansLinkStatus p s).state := by
  unfold ansLinkStatus; split <;> exact .refl s
theorem ansCountersRead_loads : s.LoadsBecome cleared (ansCountersRead p s).state := by
  unfold ansCountersRead; split <;> exact .refl s
theorem ansMeasure_loads : s.LoadsBecome cleared (ansMeasure p s).state := by unfold ansMeasure; split <;> exact .refl s
theorem ansProfileRead_loads : s.LoadsBecome cleared (ansProfileRead p s).state := by
  unfold ansProfileRead; (repeat' split) <;> exact .refl s
theorem ansRestart_loads : s.LoadsBecome cleared (ansRestart p s).state := by unfold ansRestart; split <;> exact .refl s

/-! Requests to the other blocks leave the channels. -/

theorem ansAck_loads : s.LoadsBecome cleared (ansAck p s).state := by
  unfold ansAck; (repeat' split) <;> exact .kept ⟨rfl, rfl⟩
theorem ansMask_loads : s.LoadsBecome cleared (ansMask p s).state := by
  unfold ansMask; (repeat' split) <;> exact .kept ⟨rfl, rfl⟩
theorem ansCountersClear_loads : s.LoadsBecome cleared (ansCountersClear p s).state := by
  unfold ansCountersClear; split <;> exact .kept ⟨rfl, rfl⟩
theorem ansClearLinkCounts_loads : s.LoadsBecome cleared (ansClearLinkCounts p s).state := by
  unfold ansClearLinkCounts; split <;> exact .kept ⟨rfl, rfl⟩
theorem ansWriteBattery_loads : s.LoadsBecome cleared (ansWriteBattery p s).state := by
  unfold ansWriteBattery; split
  · exact .refl s
  · exact s.whenInstaller_loads _ (.kept ⟨rfl, rfl⟩)
theorem ansWriteCurve_loads : s.LoadsBecome cleared (ansWriteCurve p s).state := by
  unfold ansWriteCurve; split
  · exact .refl s
  · split
    · exact .refl s
    · split
      · exact .refl s
      · exact s.whenInstaller_loads _ (.kept ⟨rfl, rfl⟩)
theorem ansWriteNotice_loads : s.LoadsBecome cleared (ansWriteNotice p s).state := by
  unfold ansWriteNotice; split
  · split
    · exact .refl s
    · exact s.whenIdle_loads _ (.kept ⟨rfl, rfl⟩)
  · exact .refl s
theorem ansWriteCounters_loads : s.LoadsBecome cleared (ansWriteCounters p s).state := by
  unfold ansWriteCounters; split
  · exact .refl s
  · split
    · exact .refl s
    · split_ifs
      exacts [.refl s, .refl s, s.whenIdle_loads _ (.kept ⟨rfl, rfl⟩)]
theorem ansWriteDoze_loads : s.LoadsBecome cleared (ansWriteDoze p s).state := by
  unfold ansWriteDoze; split
  · split
    · exact .refl s
    · exact s.whenIdle_loads _ (.kept ⟨rfl, rfl⟩)
  · exact .refl s
theorem ansSave_loads : s.LoadsBecome cleared (ansSave p s).state := by
  unfold ansSave; split
  · refine s.whenIdle_loads _ ?_
    split
    · exact .refl s
    · exact .kept ⟨rfl, rfl⟩
  · exact .refl s
theorem State.setCharge_loads (q : Nat) (clamped : Bool) : s.LoadsBecome cleared (s.setCharge q clamped).state := by
  refine s.whenInstaller_loads _ ?_
  split
  · exact .refl s
  · exact .kept ⟨rfl, rfl⟩
theorem ansSetChargeReserve_loads : s.LoadsBecome cleared (ansSetChargeReserve p s).state := by
  unfold ansSetChargeReserve; split
  · exact s.setCharge_loads _ _
  · exact .refl s
theorem ansSetChargeFull_loads : s.LoadsBecome cleared (ansSetChargeFull p s).state := by
  unfold ansSetChargeFull; split
  · exact s.setCharge_loads _ _
  · exact .refl s
theorem ansDoze_loads : s.LoadsBecome cleared (ansDoze p s).state := by
  unfold ansDoze; split
  · refine s.whenIdle_loads _ ?_
    split
    · exact .refl s
    · exact .kept s.enterDoze_keepsLoads
  · exact .refl s

/-! Requests that reach the loads, or the Sequencer. -/

theorem ansSwitch_loads : s.LoadsBecome cleared (ansSwitch p s).state := by
  unfold ansSwitch; split
  · split
    · exact .refl s
    · exact .runs (.ite (s.switchOn_runs _) (s.switchOff_runs _))
  · exact .refl s
theorem ansHold_loads : s.LoadsBecome cleared (ansHold p s).state := by
  unfold ansHold; split
  · split
    · exact .refl s
    · dsimp only
      split_ifs
      exacts [.refl s, .kept ⟨rfl, rfl⟩, .refl s, .runs (s.placeNew_runs _ _)]
  · exact .refl s
theorem ansReleaseHold_loads : s.LoadsBecome cleared (ansReleaseHold p s).state := by
  unfold ansReleaseHold; split
  · split
    · exact .refl s
    · exact .runs (s.release_runs _)
  · exact .refl s
theorem ansForce_loads : s.LoadsBecome cleared (ansForce p s).state := by
  unfold ansForce; split
  · split
    · exact .refl s
    · split
      · exact .refl s
      · split_ifs
        exacts [.refl s, .refl s, .runs (s.setForce_runs _ _)]
  · exact .refl s
theorem ansClearTrip_loads (h : cleared) : s.LoadsBecome cleared (ansClearTrip p s).state := by
  unfold ansClearTrip; split
  · rw [State.accept_state]; exact s.clearTrips_loads _ h
  · exact .refl s
theorem ansClearUsage_loads : s.LoadsBecome cleared (ansClearUsage p s).state := by
  unfold ansClearUsage; split
  · exact .runs (s.clearUsage_runs _)
  · exact .refl s
theorem ansWriteTiers_loads : s.LoadsBecome cleared (ansWriteTiers p s).state := by
  unfold ansWriteTiers; split
  · split
    · dsimp only
      split
      · exact .refl s
      · exact s.whenInstaller_loads _ (.runs (s.writeTier_runs _ _))
    · exact .refl s
  · exact .refl s
theorem ansWriteLoads_loads : s.LoadsBecome cleared (ansWriteLoads p s).state := by
  unfold ansWriteLoads; split
  · exact .refl s
  · dsimp only
    split
    · exact .refl s
    · split_ifs
      · exact .refl s
      · exact .refl s
      · split
        · exact .refl s
        · split
          · exact s.whenInstaller_loads _ (s.setLoads_loads _)
          · exact s.whenIdle_loads _ (s.setLoads_loads _)
theorem ansWriteSequence_loads : s.LoadsBecome cleared (ansWriteSequence p s).state := by
  unfold ansWriteSequence; split
  · exact s.whenInstaller_loads _ (.runs (s.setSequence_runs _))
  · exact .refl s
theorem ansMove_loads : s.LoadsBecome cleared (ansMove p s).state := by
  unfold ansMove; split
  · split
    · exact .refl s
    · exact s.whenIdle_loads _ (.runs (s.setOrder_runs _))
  · exact .refl s
theorem ansLoadDefaults_loads : s.LoadsBecome cleared (ansLoadDefaults p s).state := by
  unfold ansLoadDefaults; split
  · refine s.whenInstaller_loads _ ?_
    rw [State.accept_state]; exact s.takeProfile_loads _
  · exact .refl s

theorem ansProfileWrite_loads : s.LoadsBecome cleared (ansProfileWrite p s).state := by
  unfold ansProfileWrite; split
  · exact .refl s
  · rename_i fields
    split
    exacts [ansWriteBattery_loads fields s, ansWriteTiers_loads fields s, ansWriteLoads_loads fields s,
      ansWriteCurve_loads fields s, ansWriteSequence_loads fields s, ansWriteNotice_loads fields s,
      ansWriteCounters_loads fields s, ansWriteDoze_loads fields s, .refl s]
theorem ansSetCharge_loads : s.LoadsBecome cleared (ansSetCharge p s).state := by
  unfold ansSetCharge; split
  · split
    exacts [ansSetChargeReserve_loads _ s, ansSetChargeFull_loads _ s, .refl s]
  · exact .refl s

/-- Of all KINDs that of CLEAR_TRIP alone may end LATCHED of a fitted channel (R84, R157). -/
theorem answerKind_loads (kind : Nat) (h : kind = 0x14 → cleared) : s.LoadsBecome cleared (answerKind kind p s).state := by
  unfold answerKind; split
  exacts [ansIdent_loads p s, ansStatus_loads p s, ansLoadStatus_loads p s, ansLinkStatus_loads p s,
    ansCountersRead_loads p s, ansMeasure_loads p s, ansSwitch_loads p s, ansHold_loads p s, ansReleaseHold_loads p s,
    ansForce_loads p s, ansClearTrip_loads p s (h rfl), ansClearUsage_loads p s, ansAck_loads p s, ansMask_loads p s,
    ansCountersClear_loads p s, ansClearLinkCounts_loads p s, ansProfileRead_loads p s, ansProfileWrite_loads p s,
    ansMove_loads p s, ansSave_loads p s, ansLoadDefaults_loads p s, ansSetCharge_loads p s, ansDoze_loads p s,
    ansRestart_loads p s, .refl s]

end

end Sys2Proof.Machine
end

section
/-! PROOFS. Every step keeps the output law, and LATCHED is left by its three causes alone. -/

namespace Sys2Proof.Machine

/-- What a command makes of the loads, in a reset or outside one. -/
structure State.LoadsAfter (cleared : Prop) (s t : State) : Prop where
  outputs : s.OutputLaw → t.OutputLaw
  latched : ¬cleared → ∀ i : Ch, s.chans[i].HoldsLatch t.chans[i]

theorem State.KeepsLoads.after {s t : State} {cleared : Prop} (h : s.KeepsLoads t) : s.LoadsAfter cleared t :=
  ⟨h.outputLaw.2, fun _ i => by rw [h.chans]; exact (Chan.Runs.refl _).holdsLatch⟩

theorem State.LoadsBecome.after {s t : State} {cleared : Prop} (h : s.LoadsBecome cleared t) (awake : s.inReset = none) :
    s.LoadsAfter cleared t := ⟨h.outputs awake, h.latched⟩

section
variable {cleared : Prop}

/-! ### Requests, characters and events -/

/-- Handing a request over makes of the loads what its answer does, before a reset that it may bring (R143, R153, R154). -/
theorem State.handle_loads (s : State) (kind : Nat) (r : Req) (f : List Nat → State → Answer)
    (hf : ∀ (p : List Nat) (u : State), u.LoadsBecome cleared (f p u).state) : s.LoadsBecome cleared (s.handle kind r f) := by
  have taken : s.KeepsLoads s.frameGood := ⟨by simp, by simp⟩
  have answer := hf (r.payload.map BitVec.toNat) s.frameGood
  simp only [State.handle]
  split_ifs
  · exact .kept taken
  · exact .between taken (answer.resetBy _) (.refl _)
  · exact .between taken answer (.refl _)
  · exact .between taken answer ⟨rfl, rfl⟩

theorem State.event_loads {s t : State} {dt : Nat} {f : State → State}
    (hf : (s.elapse dt).LoadsBecome cleared (f (s.elapse dt))) (h : s.event dt f = .next t) : s.LoadsAfter cleared t := by
  cases h
  unfold State.awake
  split
  · exact (s.elapse_keepsLoads dt).after
  · rename_i awake
    exact (State.LoadsBecome.between (s.elapse_keepsLoads dt) hf (.refl _)).after (by simpa using awake)

theorem State.request_loads {s t : State} {dt kind : Nat} {r : Req} {f : List Nat → State → Answer}
    (hf : ∀ (p : List Nat) (u : State), u.LoadsBecome cleared (f p u).state) (h : s.request dt kind r f = .next t) :
    s.LoadsAfter cleared t := by
  refine State.event_loads (f := fun u => if u.link.rx = .send then u
    else if u.link.reply.any Reply.thenReset then u.resetBy .request else u.handle kind r f) ?_ h
  exact .ite (.refl _) (.ite (State.LoadsBecome.resetBy (.refl _) _) (State.handle_loads _ kind r f hf))

/-- A frame may end LATCHED of a fitted channel only when its KIND is that of CLEAR_TRIP (R84). -/
theorem State.acceptFrame_loads (s : State) (frame : List Byte) (h : frame[2]? = some 0x14 → cleared) :
    s.LoadsBecome cleared (s.acceptFrame frame) := by
  unfold State.acceptFrame; split
  · rename_i kind _ _
    refine s.handle_loads _ _ _ fun p u => answerKind_loads p u _ fun e => h ?_
    exact congrArg some (BitVec.eq_of_toNat_eq e)
  · exact .refl s

/-- A data character completes a frame whose KIND stands in the buffer already (R150, R153). -/
theorem State.data_loads (s : State) (d : Nat) (h : s.link.buffer[2]? = some 0x14 → cleared) :
    s.LoadsBecome cleared (s.data d) := by
  simp only [State.data]
  split_ifs with _ complete
  · exact .kept (s.onLink_keepsLoads _)
  · refine s.acceptFrame_loads _ ?_
    rw [List.getElem?_append_left (by simp at complete; omega)]; exact h
  · exact .kept (s.onLink_keepsLoads _)
  · exact .kept (s.onLink_keepsLoads _)

theorem State.character_loads (s : State) (isAddress : Bool) (d : Nat) (h : s.link.buffer[2]? = some 0x14 → cleared) :
    s.LoadsBecome cleared (s.character isAddress d) := by
  unfold State.character; split
  · exact .kept (.ite (s.address_keepsLoads d) (.refl s))
  · exact .ite (.kept ((s.onLink_keepsLoads _).trans (State.address_keepsLoads _ d))) (s.data_loads d h)
  · exact .refl s

theorem State.takeChar_loads (s : State) (fall : Nat) (c : CharSamples) (h : s.link.buffer[2]? = some 0x14 → cleared) :
    s.LoadsBecome cleared (s.takeChar fall c) := by
  simp only [State.takeChar]; split
  · refine .between (s.onLink_keepsLoads _) (State.character_loads _ _ _ ?_) (.refl _)
    exact h
  · exact .kept ((s.onLink_keepsLoads _).trans (State.onLink_keepsLoads _ _))

theorem State.fall_loads (s : State) (start : Sample3) : s.LoadsBecome cleared (s.fall start) :=
  .ite (.resetBy (.kept s.dropReply_keepsLoads) _)
    (.runs ((s.dropReply_keepsLoads.runs.trans (State.exitDoze_runs _)).trans (State.beginChar_keepsLoads _ start).runs))

theorem State.resetBy_after (s : State) (dt : Nat) (src : ResetSource) :
    s.LoadsAfter cleared ((s.elapse dt).resetBy src) :=
  ⟨fun law => State.resetBy_outputLaw _ src ((s.elapse_keepsLoads dt).outputLaw.2 law),
    (State.LoadsBecome.resetBy (.kept (s.elapse_keepsLoads dt)) src).latched⟩

end

/-- A change of one channel that bears on no output. -/
theorem State.setChan_runs (s : State) (i : Ch) {c : Chan} (h : s.chans[i].Runs c) (out : c.out = s.chans[i].out)
    (law : c.law = s.chans[i].law) : s.Runs (s.setChan i c) := by
  refine .of_out (by simp) (State.Runs.setChan s i h) fun j => ?_
  rw [State.setChan_get]; split
  · rename_i e; rw [e]; exact ⟨out, law⟩
  · exact ⟨rfl, rfl⟩

/-! ### The end of a reset (R146) -/

/-- The first derivation brings every output to its law, and the first scan leaves it there (R71, R146). -/
theorem State.takesUp_outputLaw (s : State) (r : ResetInfo) (p : Profile) (source : ProfileSource) (adr : BitVec 4)
    (br : BitVec 2) : (s.takesUp r p source adr br).OutputLaw := by
  refine (State.outputLaw_awake (s.takesUp_inReset r p source adr br)).2 ((State.lawful_iff _).2 fun i => ?_)
  rw [State.takesUp_chan]
  exact Chan.derive_out _ _

/-! ### Events -/

section
variable {cleared : Prop} (dt : Nat) (s : State) {t : State}

theorem execStartBit_loads (start : Sample3) (h : execStartBit dt start s = .next t) : s.LoadsAfter cleared t := by
  refine State.event_loads ?_ h
  exact .ite (.refl _) (State.fall_loads _ _)

theorem execCharacterTaken_loads (c : CharSamples) (h : execCharacterTaken dt c s = .next t)
    (clears : s.link.buffer[2]? = some 0x14 → cleared) : s.LoadsAfter cleared t := by
  refine State.event_loads ?_ h
  split
  · exact .ite (State.takeChar_loads _ _ _ clears) (.refl _)
  · exact .refl _

theorem execReplyStart_loads (h : execReplyStart dt s = .next t) : s.LoadsAfter cleared t := by
  refine State.event_loads (.kept ?_) h
  split
  · exact .ite (State.onLink_keepsLoads _ _) (.refl _)
  · exact .refl _

theorem execReplyEnd_loads (h : execReplyEnd dt s = .next t) : s.LoadsAfter cleared t := by
  refine State.event_loads ?_ h
  split
  · have idle := (s.elapse dt).onLink_keepsLoads fun l => { l with rx := .wait, sending := none }
    exact .ite (.ite (.resetBy (.kept idle) _) (.kept idle)) (.refl _)
  · exact .refl _

theorem execLinkQuiet_loads (h : execLinkQuiet dt s = .next t) : s.LoadsAfter cleared t :=
  State.event_loads (.runs (.ite ((State.onLink_keepsLoads _ _).runs.trans (State.lapse_runs _)) (.refl _))) h

theorem execScanComplete_loads (smp : Samples) (ord : CompletionOrder) (h : execScanComplete dt smp ord s = .next t) :
    s.LoadsAfter cleared t := by
  refine State.event_loads (.runs ?_) h
  split
  · exact .ite (State.completeScan_runs _ _ _ _) (.refl _)
  · exact .refl _

theorem execDebouncedChange_loads (i : Input) (first : Bool) (h : execDebouncedChange dt i first s = .next t) :
    s.LoadsAfter cleared t := by
  refine State.event_loads (.runs (.ite ?_ (.refl _))) h
  have level : (s.elapse dt).KeepsLoads ((s.elapse dt).takeLevel i) := ⟨rfl, rfl⟩
  cases i with
  | shore | ign => exact level.runs.trans (State.sourceInput_runs _ first)
  | install => exact level.runs.trans (State.installInput_runs _)

theorem execResetEnd_outputLaw (adr : BitVec 4) (br : BitVec 2) (h : execResetEnd dt adr br s = .next t)
    (law : s.OutputLaw) : t.OutputLaw := by
  cases hr : s.inReset with
  | none =>
    have idle : execResetEnd dt adr br s = .next (s.elapse dt) := by simp [execResetEnd, hr]
    rw [idle] at h; cases h; exact (s.elapse_keepsLoads dt).outputLaw.2 law
  | some r =>
    obtain ⟨p, source, ends, _⟩ := exec_resetEnd dt adr br s r hr
    rw [exec] at ends
    rw [ends] at h; cases h; exact State.takesUp_outputLaw _ _ _ _ _ _

/-- A retry expiry reaches a channel in TRIP_WAIT alone (R82). -/
theorem execRetryExpiry_loads (i : Ch) (h : execRetryExpiry dt i s = .next t) : s.LoadsAfter cleared t := by
  refine State.event_loads (.runs ?_) h
  split
  · rename_i waits
    have normal : (s.elapse dt).chans[i].Runs (s.elapse dt).chans[i].toNormal :=
      ⟨rfl, fun latched => by rw [waits.1] at latched; cases latched⟩
    exact .settled (by simp) (State.Runs.setChan _ i normal) _
  · exact .refl _

theorem execGoodRun_loads (i : Ch) (h : execGoodRun dt i s = .next t) : s.LoadsAfter cleared t := by
  refine State.event_loads (.runs ?_) h
  exact .ite (State.setChan_runs _ _ ⟨rfl, id⟩ rfl rfl) (.refl _)

theorem execBlankingEnd_loads (i : Ch) (h : execBlankingEnd dt i s = .next t) : s.LoadsAfter cleared t := by
  refine State.event_loads (.runs ?_) h
  exact .ite (State.setChan_runs _ _ ⟨rfl, id⟩ rfl rfl) (.refl _)

theorem execRunLockExpiry_loads (i : Ch) (h : execRunLockExpiry dt i s = .next t) : s.LoadsAfter cleared t := by
  refine State.event_loads (.runs ?_) h
  exact .ite (.resolved (by simp) (State.Runs.setChan _ i ⟨rfl, id⟩)) (.refl _)

theorem execRestLockExpiry_loads (i : Ch) (h : execRestLockExpiry dt i s = .next t) : s.LoadsAfter cleared t := by
  refine State.event_loads (.runs ?_) h
  exact .ite (.resolve (.derived (by simp) (State.Runs.setChan _ i ⟨rfl, id⟩))) (.refl _)

/-- The ends of the spacings and of the settle time have the Sequencer reconsider (R101, R113). -/
theorem State.resolveIf_loads (p : State → Prop) [DecidablePred p]
    (h : s.event dt (fun u => if p u then u.resolve else u) = .next t) : s.LoadsAfter cleared t :=
  State.event_loads (.runs (.ite (.resolve (.refl _)) (.refl _))) h

theorem execHoldExpiry_loads (i : Ch) (h : execHoldExpiry dt i s = .next t) : s.LoadsAfter cleared t := by
  refine State.event_loads (.runs (.ite (.resolve (.report ?_ _ _)) (.refl _))) h
  exact State.KeepsLoads.runs ⟨rfl, rfl⟩

theorem execSaveEnd_loads (good : Bool) (h : execSaveEnd dt good s = .next t) : s.LoadsAfter cleared t := by
  refine State.event_loads (.kept ?_) h
  split
  · exact ⟨rfl, rfl⟩
  · exact .refl _

end

/-! ### Every command -/

/-- The commands that may end LATCHED of a channel that stays fitted: CLEAR_TRIP, the last character of a frame of its KIND,
and the end of a reset (R84). -/
def Instr.MayEndLatch (s : State) : Instr → Prop
  | .clearTrip _ _ => True
  | .characterTaken _ _ => s.link.buffer[2]? = some 0x14
  | .resetEnd _ _ _ => True
  | _ => False

/-- What every command makes of the loads. -/
theorem exec_loads (c : Instr) (s t : State) (h : exec c s = .next t) : s.LoadsAfter (Instr.MayEndLatch s c) t := by
  cases c
  case ident => exact State.request_loads ansIdent_loads h
  case status => exact State.request_loads ansStatus_loads h
  case loadStatus => exact State.request_loads ansLoadStatus_loads h
  case linkStatus => exact State.request_loads ansLinkStatus_loads h
  case countersRead => exact State.request_loads ansCountersRead_loads h
  case measure => exact State.request_loads ansMeasure_loads h
  case switch => exact State.request_loads ansSwitch_loads h
  case hold => exact State.request_loads ansHold_loads h
  case releaseHold => exact State.request_loads ansReleaseHold_loads h
  case force => exact State.request_loads ansForce_loads h
  case clearTrip => exact State.request_loads (fun p u => ansClearTrip_loads p u trivial) h
  case clearUsage => exact State.request_loads ansClearUsage_loads h
  case ack => exact State.request_loads ansAck_loads h
  case mask => exact State.request_loads ansMask_loads h
  case countersClear => exact State.request_loads ansCountersClear_loads h
  case clearLinkCounts => exact State.request_loads ansClearLinkCounts_loads h
  case profileRead => exact State.request_loads ansProfileRead_loads h
  case profileWriteBattery => exact State.request_loads ansWriteBattery_loads h
  case profileWriteTiers => exact State.request_loads ansWriteTiers_loads h
  case profileWriteLoads => exact State.request_loads ansWriteLoads_loads h
  case profileWriteCurve => exact State.request_loads ansWriteCurve_loads h
  case profileWriteSequence => exact State.request_loads ansWriteSequence_loads h
  case profileWriteNotice => exact State.request_loads ansWriteNotice_loads h
  case profileWriteCounters => exact State.request_loads ansWriteCounters_loads h
  case profileWriteDoze => exact State.request_loads ansWriteDoze_loads h
  case move => exact State.request_loads ansMove_loads h
  case save => exact State.request_loads ansSave_loads h
  case loadDefaults => exact State.request_loads ansLoadDefaults_loads h
  case setChargeReserve => exact State.request_loads ansSetChargeReserve_loads h
  case setChargeFull => exact State.request_loads ansSetChargeFull_loads h
  case doze => exact State.request_loads ansDoze_loads h
  case restart => exact State.request_loads ansRestart_loads h
  case startBit => exact execStartBit_loads _ s _ h
  case characterTaken => exact execCharacterTaken_loads _ s _ h id
  case breakHeld | gap => exact State.event_loads (.kept (.ite (State.onLink_keepsLoads _ _) (.refl _))) h
  case replyStart => exact execReplyStart_loads _ s h
  case replyEnd => exact execReplyEnd_loads _ s h
  case linkQuiet => exact execLinkQuiet_loads _ s h
  case scanBegin => exact State.event_loads (.runs (.ite (State.beginScan_runs _) (.refl _))) h
  case scanComplete => exact execScanComplete_loads _ s _ _ h
  case rawInputChange => cases h; exact State.KeepsLoads.after ⟨rfl, rfl⟩
  case debouncedChange => exact execDebouncedChange_loads _ s _ _ h
  case powerOn | supplyLow | rstn => cases h; exact s.resetBy_after _ _
  case resetEnd => exact ⟨execResetEnd_outputLaw _ s _ _ h, fun held => absurd trivial held⟩
  case retryExpiry => exact execRetryExpiry_loads _ s _ h
  case goodRun => exact execGoodRun_loads _ s _ h
  case runLockExpiry => exact execRunLockExpiry_loads _ s _ h
  case restLockExpiry => exact execRestLockExpiry_loads _ s _ h
  case blankingEnd => exact execBlankingEnd_loads _ s _ h
  case shedSpacingEnd | restoreSpacingEnd | settleTimeEnd => exact State.resolveIf_loads _ s _ h
  case holdExpiry => exact execHoldExpiry_loads _ s _ h
  case saveEnd => exact execSaveEnd_loads _ s _ h

/-! ### The output law (R71, R144) and LATCHED (R84) -/

/-- Settles O10: the front command keeps the law (`exec_loads`), and the queue does not bear on it. -/
theorem everyStepKeepsTheOutputLaw : Obligations.EveryStepKeepsTheOutputLaw := by
  intro s t law h
  unfold step at h
  split at h
  · cases h; exact law
  · rename_i c rest _
    exact (exec_loads c { s with pending := rest } t h).outputs law

/-- Settles O15: a command that may not end LATCHED leaves a channel LATCHED or makes it not fitted (`exec_loads`). -/
theorem latchedIsLeftOnlyByItsThreeCauses : Obligations.LatchedIsLeftOnlyByItsThreeCauses := by
  intro c s t i h fitted latched left
  by_cases may : Instr.MayEndLatch s c
  · cases c <;> simp_all [Instr.MayEndLatch]
  · rcases (exec_loads c s t h).latched may i fitted latched with still | unfitted
    · exact absurd still left
    · exact .inr (.inr (.inl unfitted))

end Sys2Proof.Machine
end

section
/-! PROOFS. What the Sequencer leaves of a channel that it does not take, and how an output goes off and on. -/

namespace Sys2Proof.Machine

/-! ### What the law asks for beside the rest lock (R71) -/

/-- The output is called for by all that the law reads but the rest lock (R71). -/
def Chan.wanted (c : Chan) : Bool :=
  c.cfg.fitted && decide (c.prot = .normal) &&
    (decide (c.force = .on) || (decide (c.force = .none) && c.demand && c.mark.isNone))

theorem Chan.law_eq_wanted (c : Chan) : c.law = (c.wanted && (decide (c.force = .on) || c.restLock.isNone)) := by
  simp only [Chan.law, Chan.wanted]
  cases c.cfg.fitted <;> cases decide (c.prot = .normal) <;> cases decide (c.force = .on) <;>
    cases decide (c.force = .none) <;> cases c.demand <;> cases c.mark.isNone <;> simp

theorem Chan.law_of_unwanted {c : Chan} (h : c.wanted = false) : c.law = false := by rw [Chan.law_eq_wanted, h]; rfl

theorem Chan.turnOff_wanted (now : Nat) (why : LastOff) (c : Chan) : (c.turnOff now why).wanted = c.wanted := rfl

/-- An output that is on and not wanted goes off once, with the cause of R78. -/
theorem Chan.derive_turnOff (now : Nat) {c : Chan} (on : c.out = true) (h : c.wanted = false) :
    c.derive now = c.turnOff now c.offCause := by
  rcases c.derive_cases now with ⟨same, _⟩ | ⟨law, _⟩ | ⟨_, _, _, e⟩ | ⟨_, _, law, _⟩
  · rw [Chan.law_of_unwanted h, on] at same; cases same
  · rw [Chan.law_of_unwanted h] at law; cases law
  · exact e
  · rw [Chan.law_of_unwanted (by rw [Chan.turnOff_wanted, h])] at law; cases law

/-- An output that is off and that the law calls on comes on (R72). -/
theorem Chan.derive_turnOn (now : Nat) {c : Chan} (off : c.out = false) (h : c.law = true) :
    c.derive now = c.turnOn now := by rw [Chan.derive_of_off now c off, if_pos h]

theorem Chan.derive_wanted (now : Nat) (c : Chan) : (c.derive now).wanted = c.wanted := by simp [Chan.wanted]

theorem Chan.derive_out_unwanted (now : Nat) {c : Chan} (h : c.wanted = false) : (c.derive now).out = false := by
  rw [Chan.derive_out]; exact Chan.law_of_unwanted ((c.derive_wanted now).trans h)

/-! ### A channel that the Sequencer does not take (R98, R114) -/

/-- The Sequencer may shed the channel: fitted, with demand ON, force NONE, and not EXEMPT (R114). -/
def Chan.Sheddable (c : Chan) : Prop :=
  c.cfg.fitted = true ∧ c.demand = true ∧ c.force = .none ∧ c.cfg.cls ≠ .exempt

theorem Chan.Moves.sheddable {c d : Chan} (h : c.Moves d) : d.Sheddable ↔ c.Sheddable := by
  simp only [Chan.Sheddable, h.cfg, h.demand, h.force]

/-- A channel of the must-shed set is one that the Sequencer may shed (R96). -/
theorem State.sheddable_of_mustShed {s : State} {i : Ch} (h : s.mustShed i = true) : s.chans[i].Sheddable := by
  simp only [State.mustShed, Bool.and_eq_true, decide_eq_true_eq] at h
  obtain ⟨⟨⟨fitted, demand⟩, force⟩, rest⟩ := h
  refine ⟨fitted, demand, force, fun exempt => ?_⟩
  rw [exempt] at rest; cases rest

theorem State.mustShed_of_idle {s : State} {i : Ch} (h : ¬s.chans[i].Sheddable) : s.mustShed i = false :=
  Bool.eq_false_of_not_eq_true fun must => h (State.sheddable_of_mustShed must)

/-- The Sequencer leaves the channel: no mark to clear, not in the must-shed set, and nothing to mark in SETTLE. -/
structure State.Leaves (s : State) (i : Ch) : Prop where
  unmarked : s.chans[i].mark = none
  spared : s.mustShed i = false
  settled : s.seq.st ≠ .settle ∨ ¬s.chans[i].Sheddable

theorem State.Leaves.of_idle {s : State} {i : Ch} (unmarked : s.chans[i].mark = none) (idle : ¬s.chans[i].Sheddable) :
    s.Leaves i := ⟨unmarked, State.mustShed_of_idle idle, .inr idle⟩

theorem State.massShed_seqSt (s : State) : s.massShed.seq.st = s.seq.st := by
  unfold State.massShed; split
  · simp only [State.markEach_seq]
  · rfl

theorem State.Leaves.arrivalMark {s : State} {i : Ch} (h : s.Leaves i) : s.arrivalMark i = none := by
  have idle : (decide (s.seq.st = .settle) && s.chans[i].cfg.fitted && s.chans[i].demand &&
      decide (s.chans[i].force = .none) && decide (s.chans[i].cfg.cls ≠ .exempt)) = false := by
    refine Bool.eq_false_of_not_eq_true fun all => ?_
    simp only [Bool.and_eq_true, decide_eq_true_eq] at all
    obtain ⟨⟨⟨⟨settle, fitted⟩, demand⟩, force⟩, cls⟩ := all
    exact h.settled.elim (· settle) (· ⟨fitted, demand, force, cls⟩)
  simp only [State.arrivalMark, h.unmarked, h.spared, idle]
  rfl

theorem State.Leaves.marking {s : State} {i : Ch} (h : s.Leaves i) : s.massShed.markSettle.chans[i] = s.chans[i] := by
  have first : s.massShed.chans[i] = s.chans[i] := by
    rcases s.massShed_get i with e | e
    · exact e
    · rw [e, State.markEach_none]; simp [State.shedCandidate, h.spared]
  have left : s.massShed.Leaves i :=
    ⟨by rw [first]; exact h.unmarked, by rw [s.massShed_moves.mustShed]; exact h.spared,
      by rw [State.massShed_seqSt, first]; exact h.settled⟩
  rw [← first]
  unfold State.markSettle; split
  · exact State.markEach_none _ _ _ left.arrivalMark
  · rfl

/-- A reconsideration leaves such a channel as it stands. -/
theorem State.Leaves.reconsider {s : State} {i : Ch} (h : s.Leaves i) : s.reconsider.chans[i] = s.chans[i] := by
  have must := (s.massShed_moves.trans (State.markSettle_moves _)).mustShed i
  have e : s.reconsider.chans[i] = s.massShed.markSettle.takeStep.chans[i] := by simp only [State.reconsider]
  rw [e, State.takeStep_other, h.marking]
  · simp [State.shedCandidate, must, h.spared]
  · have unmarked : s.massShed.markSettle.chans[i].mark.isSome = false := by rw [h.marking, h.unmarked]; rfl
    simp only [State.restoreCandidate, unmarked, Bool.false_and]

/-- A move and a channel that keeps its mark absent leave the Sequencer no cause to take it. -/
theorem State.Leaves.moves {s t : State} {i : Ch} (h : s.Leaves i) (m : s.Moves t) (unmarked : t.chans[i].mark = none)
    (settle : s.seq.st ≠ .settle → t.seq.st ≠ .settle) : t.Leaves i :=
  ⟨unmarked, by rw [m.mustShed]; exact h.spared, h.settled.imp settle fun idle => by rwa [(m.chans i).sheddable]⟩

/-- Settling the outputs does to such a channel what its own derivation does (R71). -/
theorem State.Leaves.settleOutputs {s : State} {i : Ch} (h : s.Leaves i) (n : Nat) :
    (s.settleOutputs n).chans[i] = s.chans[i].derive s.now := by
  induction n generalizing s with
  | zero => exact s.derive_get i
  | succ n ih =>
    unfold State.settleOutputs; split
    · rename_i lawful
      exact (Chan.derive_of_law _ _ ((State.lawful_iff s).1 lawful i).symm).symm
    · have derived : s.derive.Leaves i :=
        h.moves s.derive_moves (by rw [State.derive_get, Chan.derive_mark, h.unmarked]) (by rw [State.derive_seq]; exact id)
      have same : s.derive.reconsider.chans[i] = s.chans[i].derive s.now := by
        rw [derived.reconsider, State.derive_get]
      rw [ih (derived.moves (State.reconsider_moves _) (by rw [derived.reconsider]; exact derived.unmarked)
        (State.reconsider_st _)), same]
      exact Chan.derive_of_law _ _ (Chan.derive_out _ _).symm

/-- So does resolving a change. -/
theorem State.Leaves.resolve {s : State} {i : Ch} (h : s.Leaves i) : s.resolve.chans[i] = s.chans[i].derive s.now := by
  rw [State.resolve, (h.moves s.reconsider_moves (by rw [h.reconsider]; exact h.unmarked) s.reconsider_st).settleOutputs,
    h.reconsider, s.reconsider_moves.now]

end Sys2Proof.Machine
end

section
/-! PROOFS. LOAD_STATUS, SWITCH, CLEAR_TRIP and CLEAR_USAGE. -/

namespace Sys2Proof.Machine

/-! ### LOAD_STATUS (R90, R160) -/

/-- Settles O21: the number of a channel names it exactly when it is fitted (`State.fittedChannel_number`), and the record is the
one of R160 with its times by `remaining_eq`. -/
theorem loadStatusAnswers : Obligations.LoadStatusAnswers := by
  intro dt tag s i hears u c now left hold request
  have read : (u8 (i.val + 1) ++ [1]).map BitVec.toNat = [i.val + 1, 1] := by
    rw [List.map_append, u8_number]; rfl
  have named : u.fittedChannel (i.val + 1) = if c.cfg.fitted then some i else none := by
    rw [State.fittedChannel_number, State.taken_chans]
  constructor
  · intro unfitted
    refine State.request_answered s dt 0x03 tag _ ansLoadStatus hears (by decide) (a := u.refuse .badChannel) ?_
    rw [unfitted, if_neg Bool.false_ne_true] at named
    rw [read]; simp only [ansLoadStatus]; rw [named]
  · intro fitted
    rw [fitted, if_pos rfl] at named
    have runs := State.request_answered s dt 0x03 tag _ ansLoadStatus hears (by decide)
      (show ansLoadStatus ((u8 (i.val + 1) ++ [1]).map BitVec.toNat) u = u.accept .ok (u.loadRecord i) by
        rw [read]; simp only [ansLoadStatus]; rw [named]; rfl)
    have perSecond : 0 < Config.unitsPerSecond := by decide
    have perMinute : 0 < Config.unitsPerMinute := by decide
    refine runs.trans ?_
    simp only [State.accept, State.loadRecord, State.loadFlags, State.position, State.holdRemaining, State.channelCurrent,
      remaining_eq _ _ perSecond, remaining_eq _ _ perMinute, u, State.taken_now, State.taken_chans, State.taken_seq,
      State.taken_holds, State.taken_scanner, State.taken_held]
    rfl

/-! ### Effective sets (R68) -/

theorem State.effective_taken (s : State) (dt set : Nat) :
    (s.taken dt).effective set = fun i : Ch => set.testBit i.val && s.chans[i].cfg.fitted := by
  funext i; simp only [State.effective, named, State.fitted, State.taken_chans]

theorem State.cut_taken (s : State) (dt set : Nat) :
    (s.taken dt).cut set = channels.any fun i : Ch => set.testBit i.val && !s.chans[i].cfg.fitted := by
  simp only [State.cut, named, State.fitted, State.taken_chans]

theorem State.lawful_taken {s : State} (hears : s.Hears) (law : s.OutputLaw) (dt : Nat) : (s.taken dt).lawful = true :=
  (State.outputLaw_awake (by rw [State.taken_inReset, hears.awake])).1 (by simpa [State.OutputLaw] using law)

theorem State.Spares.trans {s t u : State} (h : s.Spares t) (k : t.Spares u) : s.Spares u :=
  ⟨k.inReset.trans h.inReset, k.scanner.trans h.scanner, k.est.trans h.est, k.tiers.trans h.tiers, k.order.trans h.order,
    k.sequence.trans h.sequence, k.settleStart.trans h.settleStart, k.power.trans h.power, k.notices.trans h.notices,
    k.store.trans h.store, fun n => (k.selectors n).trans (h.selectors n), k.pending.trans h.pending⟩

theorem State.mapChans_spares (s : State) (f : Ch → Chan → Chan) : s.Spares (s.mapChans f) := by constructor <;> simp

theorem State.dropHolds_spares (s : State) (p : Ch → Bool) : s.Spares (s.dropHolds p) := by constructor <;> simp

/-- What spares the components of the part that has taken a request spares them of the part before it (R153). -/
theorem State.Spares.of_taken {s t : State} {dt : Nat} (h : (s.taken dt).Spares t) : s.Spares t :=
  ⟨by simpa using h.inReset, by simpa using h.scanner, by simpa using h.est, by simpa using h.tiers,
    by simpa using h.order, by simpa using h.sequence, by simpa using h.settleStart, by simpa using h.power,
    by simpa using h.notices, by simpa using h.store, by simpa using h.selectors, by simpa using h.pending⟩

/-- No member of an effective set satisfies what none of the channels does. -/
theorem forall_of_any_false {p : Ch → Bool} (h : ¬channels.any p = true) (i : Ch) : p i = false := by
  simpa using List.any_eq_false.1 (eq_false_of_ne_true h) i (List.mem_finRange i)

/-- Channels that change to what they are leave the part as it stands. -/
theorem State.mapChans_eq_self (s : State) (f : Ch → Chan → Chan) (h : ∀ i : Ch, f i s.chans[i] = s.chans[i]) :
    s.mapChans f = s := by
  have same : (Vector.ofFn fun i : Ch => f i s.chans[i]) = s.chans := by
    ext1 i hi; rw [Vector.getElem_ofFn]; exact h ⟨i, hi⟩
  rw [State.mapChans, same]

/-- The law calls on a channel that nothing holds (R71, R79). -/
theorem Chan.law_of_free {c : Chan} (fitted : c.cfg.fitted = true) (normal : c.prot = .normal) (unforced : c.force = .none)
    (demand : c.demand = true) (unmarked : c.mark = none) (unlocked : c.restLock = none) : c.law = true := by
  simp [Chan.law, fitted, normal, unforced, demand, unmarked, unlocked]

/-! ### SWITCH ON (R76) -/

/-- The part with the demand of a set ON, before any mark. -/
def State.demandOn (s : State) (set : Ch → Bool) : State :=
  s.mapChans fun i c => { c with demand := c.demand || set i }

theorem State.demandOn_get (s : State) (set : Ch → Bool) (i : Ch) :
    (s.demandOn set).chans[i] = { s.chans[i] with demand := s.chans[i].demand || set i } := s.mapChans_get _ i

theorem Chan.demand_or (c : Chan) (b : Bool) (h : b = true → c.demand = true) : { c with demand := c.demand || b } = c := by
  cases c with | mk _ _ demand => cases demand <;> cases b <;> simp_all

/-- SWITCH ON sets the demand of its effective set, marks those that arrive, and has the Sequencer reconsider (R76, R110, R114). -/
theorem State.switchOn_eq (s : State) (set : Nat) :
    let arrives : Ch → Bool := fun i => s.effective set i && !s.chans[i].demand
    let t := s.demandOn (s.effective set)
    s.switchOn set = if channels.any arrives then (t.markEach fun i => if arrives i then t.arrivalMark i else none).resolve
      else t := by
  intro arrives t
  have change : (s.mapChans fun i c => if arrives i then { c with demand := true } else c) = t := by
    have chan (i : Ch) : (if arrives i then { s.chans[i] with demand := true } else s.chans[i]) =
        { s.chans[i] with demand := s.chans[i].demand || s.effective set i } := by
      by_cases h : arrives i = true
      · obtain ⟨hit, off⟩ := Bool.and_eq_true_iff.1 h
        rw [if_pos h, hit, Bool.or_true]
      · rw [if_neg h, Chan.demand_or]
        intro hit; simpa [arrives, hit] using h
    simp only [State.mapChans, State.demandOn, t, chan]
  by_cases h : channels.any arrives = true
  · rw [if_pos h, State.switchOn, if_pos h, change]
  · rw [if_neg h, State.switchOn, if_neg h]
    refine (s.mapChans_eq_self _ fun i => Chan.demand_or _ _ fun hit => ?_).symm
    simpa [arrives, hit] using forall_of_any_false h i

theorem State.switchOn_moves (s : State) (set : Nat) : (s.demandOn (s.effective set)).Moves (s.switchOn set) := by
  rw [State.switchOn_eq]
  split
  · exact (State.markEach_moves _ _).trans (State.resolve_moves _)
  · exact .refl _

/-- At depth 0 and outside SETTLE no channel that arrives is marked. -/
theorem State.arrivalMark_zero (s : State) (depth : s.tiers.depth = 0) (settled : s.seq.st ≠ .settle) (i : Ch) :
    s.arrivalMark i = none := by
  simp [State.arrivalMark, s.mustShed_zero depth, settled]

/-- There a channel whose law is ON with its demand ON comes on (R76, R110, R114). -/
theorem State.switchOn_on (s : State) (set : Nat) (i : Ch) (lawful : s.lawful = true) (depth : s.tiers.depth = 0)
    (settled : s.seq.st ≠ .settle) (law : (s.demandOn (s.effective set)).chans[i].law = true) :
    (s.switchOn set).chans[i].out = true := by
  have lawful' := (s.switchOn_runs set).lawful lawful
  have depth' : (s.demandOn (s.effective set)).tiers.depth = 0 := depth
  have settled' : (s.demandOn (s.effective set)).seq.st ≠ .settle := settled
  rw [State.switchOn_eq] at lawful' ⊢
  split
  · refine State.resolve_on _ (by simpa using depth') (by simpa using settled') i ?_
    rw [State.markEach_none]
    · exact law
    · rw [State.arrivalMark_zero _ depth' settled', ite_self]
  · rename_i none'
    rw [if_neg none'] at lawful'
    rw [(State.lawful_iff _).1 lawful' i]; exact law

theorem ansSwitch_on (a b c : Nat) (s : State) : ansSwitch [a, b, c, 1] s = (s.switchOn (be24 a b c)).accept
    (clampedIf (s.cut (be24 a b c))) (setField (s.effective (be24 a b c)) ++
      setField fun i => s.effective (be24 a b c) i && (s.switchOn (be24 a b c)).chans[i].out) := rfl

/-- Settles O24: the answer is the part with the demand ON, moved by the Sequencer (`State.switchOn_moves`) with its outputs settled
(`State.switchOn_runs`); where nothing holds a channel it comes on (`State.switchOn_on`). -/
theorem switchOnSetsDemandAndBringsOutputsOn : Obligations.SwitchOnSetsDemandAndBringsOutputsOn := by
  intro dt tag a b c s hears law set hit
  have runs := State.request_answered s dt 0x10 tag [a, b, c, 1] ansSwitch hears (by decide)
    (ansSwitch_on a.toNat b.toNat c.toNat _)
  have lawful := State.lawful_taken hears law dt
  have moves := (s.taken dt).switchOn_moves set
  have settled := ((s.taken dt).switchOn_runs set).lawful lawful
  have on (i : Ch) := (s.taken dt).switchOn_on set i lawful
  simp only [State.accept, State.effective_taken, State.cut_taken] at runs moves on
  generalize (s.taken dt).switchOn (be24 a.toNat b.toNat c.toNat) = t at runs moves settled on
  have chan (i : Ch) := moves.chans i
  simp only [State.demandOn_get, State.taken_chans] at chan on
  refine ⟨_, runs, ?_⟩
  simp only [State.answered_chans, State.answered_holds]
  refine ⟨State.Spares.answered (.of_taken (dt := dt) ?_) _ _ _ _, moves.holds.trans (s.taken_holds dt),
    fun i => (chan i).demand, fun i => ?_, (State.lawful_iff t).1 settled, ?_, State.answered_replies _ _ _ _ _⟩
  · exact (State.mapChans_spares _ _).trans moves.spares
  · exact ⟨(chan i).cfg, (chan i).prot, (chan i).retries, (chan i).retryEnd, (chan i).usage, (chan i).force⟩
  · intro i named normal unforced unmarked unlocked unsettled depth
    refine on i (by simpa using depth) (by simpa using unsettled) ?_
    have demand : (s.chans[i].demand || hit i) = true := by rw [named, Bool.or_true]
    have fitted : s.chans[i].cfg.fitted = true := (Bool.and_eq_true_iff.1 named).2
    exact Chan.law_of_free fitted normal unforced demand unmarked unlocked

/-! ### SWITCH OFF (R77, R84) -/

/-- One channel whose demand SWITCH OFF takes (R77, R84). -/
def Chan.demandOff (c : Chan) : Chan :=
  { (if c.prot = .tripWait then c.toNormal else c) with demand := false, mark := none }

theorem Chan.demandOff_fields (c : Chan) : c.demandOff.demand = false ∧ c.demandOff.mark = none ∧
    c.demandOff.retries = c.retries ∧ c.demandOff.cfg = c.cfg ∧ c.demandOff.usage = c.usage ∧ c.demandOff.force = c.force ∧
    c.demandOff.prot = (if c.prot = .tripWait then .normal else c.prot) ∧
    (c.prot = .tripWait → c.demandOff.retryEnd = none) ∧ c.demandOff.out = c.out := by
  unfold Chan.demandOff
  split <;> simp [*, Chan.toNormal]

/-- Without demand no output is wanted but a forced one (R71). -/
theorem Chan.wanted_of_quiet {c : Chan} (demand : c.demand = false) (unforced : c.force ≠ .on) : c.wanted = false := by
  simp [Chan.wanted, demand, unforced]

/-- What goes off for want of demand has the cause DEMAND (R78). -/
theorem Chan.offCause_of_quiet {c : Chan} (demand : c.demand = false) (unmarked : c.mark = none) (unforced : c.force = .none)
    (fitted : c.cfg.fitted = true) : c.offCause = ⟨.demand, 0⟩ := by
  simp [Chan.offCause, demand, unmarked, unforced, fitted]

theorem Chan.turnOff_lastOff (now : Nat) (why : LastOff) (c : Chan) : (c.turnOff now why).lastOff = why := rfl

/-- The part with the demand of a set OFF, and the marks and hold entries gone. -/
def State.demandOff (s : State) (set : Ch → Bool) : State :=
  (s.mapChans fun i c => if set i then c.demandOff else c).dropHolds set

theorem State.demandOff_get (s : State) (set : Ch → Bool) (i : Ch) :
    (s.demandOff set).chans[i] = if set i then s.chans[i].demandOff else s.chans[i] := by
  rw [State.demandOff, State.dropHolds_chans, State.mapChans_get]

theorem State.switchOff_eq (s : State) (set : Nat) :
    let leaves : Ch → Bool := fun i => s.effective set i && s.chans[i].demand
    s.switchOff set = if channels.any leaves then (s.demandOff leaves).resolve else s.demandOff leaves := by
  intro leaves
  by_cases h : channels.any leaves = true
  · rw [if_pos h, State.switchOff, if_pos h]; rfl
  · have quiet := forall_of_any_false h
    have same : (s.mapChans fun i c => if leaves i then c.demandOff else c) = s :=
      s.mapChans_eq_self _ fun i => if_neg (ne_true_of_eq_false (quiet i))
    rw [if_neg h, State.switchOff, if_neg h, State.demandOff, same]
    simp only [State.dropHolds, quiet, Bool.not_false, List.filter_true]

theorem State.switchOff_moves (s : State) (set : Nat) :
    (s.demandOff fun i => s.effective set i && s.chans[i].demand).Moves (s.switchOff set) := by
  rw [State.switchOff_eq]
  split
  · exact State.resolve_moves _
  · exact .refl _

/-- Without demand and mark nothing of the Sequencer bears on a channel: its output is derived from its own state. -/
theorem State.switchOff_off (s : State) (set : Nat) (i : Ch) (h : (s.effective set i && s.chans[i].demand) = true) :
    (s.switchOff set).chans[i] = s.chans[i].demandOff.derive s.now := by
  have chan : (s.demandOff fun i => s.effective set i && s.chans[i].demand).chans[i] = s.chans[i].demandOff := by
    rw [State.demandOff_get, if_pos h]
  obtain ⟨demand, mark, _⟩ := s.chans[i].demandOff_fields
  have idle : (s.demandOff fun i => s.effective set i && s.chans[i].demand).Leaves i :=
    .of_idle (by rw [chan]; exact mark) fun idle => by rw [chan, Chan.Sheddable, demand] at idle; cases idle.2.1
  have some' : (channels.any fun i => s.effective set i && s.chans[i].demand) = true :=
    List.any_eq_true.2 ⟨i, List.mem_finRange i, h⟩
  rw [State.switchOff_eq, if_pos some', idle.resolve, chan]
  simp only [State.demandOff, State.dropHolds_now, State.mapChans_now]

theorem ansSwitch_off (a b c : Nat) (s : State) : ansSwitch [a, b, c, 0] s = (s.switchOff (be24 a b c)).accept
    (clampedIf (s.cut (be24 a b c))) (setField (s.effective (be24 a b c)) ++
      setField fun i => s.effective (be24 a b c) i && (s.switchOff (be24 a b c)).chans[i].out) := rfl

/-- Settles O25: a channel that leaves is derived from its own state, without demand and mark (`State.switchOff_off`), and
every other is moved by the Sequencer at most (`State.switchOff_moves`). -/
theorem switchOffTurnsUnforcedOutputsOff : Obligations.SwitchOffTurnsUnforcedOutputsOff := by
  intro dt tag a b c s hears _ set hit off
  have runs := State.request_answered s dt 0x10 tag [a, b, c, 0] ansSwitch hears (by decide)
    (ansSwitch_off a.toNat b.toNat c.toNat _)
  have moves := (s.taken dt).switchOff_moves set
  have left (i : Ch) := (s.taken dt).switchOff_off set i
  simp only [State.accept, State.effective_taken, State.cut_taken, State.taken_chans] at runs moves left
  generalize (s.taken dt).switchOff (be24 a.toNat b.toNat c.toNat) = t at runs moves left
  refine ⟨_, runs, ?_⟩
  simp only [State.answered_chans, State.answered_holds]
  refine ⟨State.Spares.answered (.of_taken (dt := dt) ?_) _ _ _ _, fun i leaves => ?_, fun i stays => ?_, ?_,
    State.answered_replies _ _ _ _ _⟩
  · exact ((State.mapChans_spares _ _).trans (State.dropHolds_spares _ _)).trans moves.spares
  · obtain ⟨demand, mark, retries, cfg, usage, force, prot, retryEnd, out⟩ := s.chans[i].demandOff_fields
    have unwanted (unforced : s.chans[i].force ≠ .on) : s.chans[i].demandOff.wanted = false :=
      Chan.wanted_of_quiet demand (by rw [force]; exact unforced)
    have fitted : s.chans[i].cfg.fitted = true := (Bool.and_eq_true_iff.1 (Bool.and_eq_true_iff.1 leaves).1).2
    rw [left i leaves]
    simp only [Chan.derive_demand, Chan.derive_mark, Chan.derive_retries, Chan.derive_cfg, Chan.derive_usage,
      Chan.derive_force, Chan.derive_prot, Chan.derive_retryEnd]
    refine ⟨demand, mark, retries, cfg, usage, force, prot, retryEnd, fun unforced => ?_, fun unforced lit => ?_⟩
    · exact Chan.derive_out_unwanted _ (unwanted unforced)
    · rw [Chan.derive_turnOff _ (out.trans lit) (unwanted (by rw [unforced]; decide)),
        Chan.offCause_of_quiet demand mark (force.trans unforced) (by rw [cfg]; exact fitted), Chan.turnOff_lastOff]
  · have chan := (moves.chans i).keeps
    rw [State.demandOff_get, if_neg (ne_true_of_eq_false stays), State.taken_chans] at chan
    exact chan
  · rw [moves.holds]; simp only [State.demandOff, State.dropHolds, State.mapChans_holds, State.taken_holds]; rfl

/-! ### CLEAR_TRIP and CLEAR_USAGE (R85, R89) -/

/-- The channels of a set NORMAL, with no retry used and no retry timer (R84, R85). -/
def State.cleared (s : State) (set : Ch → Bool) : State :=
  s.mapChans fun i c => if set i then { c.toNormal with retries := 0 } else c

theorem State.cleared_get (s : State) (set : Ch → Bool) (i : Ch) :
    (s.cleared set).chans[i] = if set i then { s.chans[i].toNormal with retries := 0 } else s.chans[i] :=
  s.mapChans_get _ i

/-- CLEAR_TRIP clears its effective set, treats LATCH, and settles the outputs (R84, R85). -/
theorem State.clearTrips_eq (s : State) (set : Nat) : s.clearTrips set =
    State.resolveOutputs { s.cleared (s.effective set) with
      notices := s.notices.level .latch s.latchCondition (s.cleared (s.effective set)).latchCondition } := by
  simp only [State.clearTrips, State.cleared, State.mapChans_notices]

theorem State.clearTrips_moves (s : State) (set : Nat) :
    State.Moves { s.cleared (s.effective set) with
      notices := s.notices.level .latch s.latchCondition (s.cleared (s.effective set)).latchCondition } (s.clearTrips set) := by
  rw [State.clearTrips_eq]; exact State.resolveOutputs_moves _

theorem State.clearTrips_lawful (s : State) (set : Nat) (i : Ch) :
    (s.clearTrips set).chans[i].out = (s.clearTrips set).chans[i].law := by
  rw [State.clearTrips_eq]; exact State.resolveOutputs_lawful _ i

theorem State.Spares.of_taken_notices {s t : State} {dt : Nat} {n : Notices} (h : State.Spares { s.taken dt with notices := n } t) :
    State.Spares { s with notices := n } t :=
  ⟨by simpa using h.inReset, by simpa using h.scanner, by simpa using h.est, by simpa using h.tiers,
    by simpa using h.order, by simpa using h.sequence, by simpa using h.settleStart, by simpa using h.power,
    h.notices, by simpa using h.store, by simpa using h.selectors, by simpa using h.pending⟩

/-- A change of the channels spares what stands beside them. -/
theorem State.cleared_spares (s : State) (set : Ch → Bool) (n : Notices) :
    State.Spares { s with notices := n } { s.cleared set with notices := n } := by
  constructor <;> simp [State.cleared]

theorem ansClearTrip_eq (a b c : Nat) (s : State) : ansClearTrip [a, b, c] s =
    (s.clearTrips (be24 a b c)).accept (clampedIf (s.cut (be24 a b c))) (setField (s.effective (be24 a b c))) := rfl

theorem ansClearUsage_eq (a b c : Nat) (s : State) : ansClearUsage [a, b, c] s =
    (s.clearUsage (be24 a b c)).accept (clampedIf (s.cut (be24 a b c))) (setField (s.effective (be24 a b c))) := rfl

/-- LATCH is the notice of code 4: treating it leaves every other notice. -/
theorem latch_bit_other {n : Fin 9} (h : n ≠ 4) : NoticeCode.latch.bit[n] = false := by
  revert n; decide

theorem clearTrip_clears (dt : Nat) (tag a b c : Byte) (s : State) (hears : s.Hears) :
    let set := be24 a.toNat b.toNat c.toNat
    let hit : Ch → Bool := fun i => set.testBit i.val && s.chans[i].cfg.fitted
    let status : Status := if channels.any fun i => set.testBit i.val && !s.chans[i].cfg.fitted then .clamped else .ok
    ∃ t, exec (.clearTrip dt ⟨false, tag, [a, b, c]⟩) s = .next t ∧
      (∀ i : Ch, hit i = true → t.chans[i].prot = .normal ∧ t.chans[i].retries = 0 ∧ t.chans[i].retryEnd = none ∧
        t.chans[i].cfg = s.chans[i].cfg ∧ t.chans[i].demand = s.chans[i].demand ∧
        t.chans[i].usage = s.chans[i].usage ∧ t.chans[i].force = s.chans[i].force) ∧
      (∀ i : Ch, hit i = false → s.chans[i].Keeps t.chans[i]) ∧
      (∀ i : Ch, t.chans[i].out = t.chans[i].law) ∧
      t.holds = s.holds ∧ State.Spares { s with notices := t.notices } t ∧
      (∀ n : Fin 9, n ≠ 4 → t.notices.latch[n] = s.notices.latch[n] ∧ t.notices.ackMark[n] = s.notices.ackMark[n]) ∧
      t.Replies 0x14 tag status (setField hit) := by
  intro set hit status
  have runs := State.request_answered s dt 0x14 tag [a, b, c] ansClearTrip hears (by decide)
    (ansClearTrip_eq a.toNat b.toNat c.toNat _)
  have moves := (s.taken dt).clearTrips_moves set
  have settled := (s.taken dt).clearTrips_lawful set
  simp only [State.accept, State.effective_taken, State.cut_taken] at runs moves
  generalize (s.taken dt).clearTrips (be24 a.toNat b.toNat c.toNat) = t at runs moves settled
  have chan (i : Ch) := moves.chans i
  simp only [State.cleared_get, State.taken_chans] at chan
  have kept (n : Fin 9) (other : n ≠ 4) :
      t.notices.latch[n] = s.notices.latch[n] ∧ t.notices.ackMark[n] = s.notices.ackMark[n] := by
    rw [moves.notices, ← s.taken_notices dt]
    exact Notices.level_other _ .latch _ _ n (latch_bit_other other)
  refine ⟨_, runs, ?_⟩
  simp only [State.answered_chans, State.answered_holds, State.answered_notices]
  refine ⟨fun i named => ?_, fun i other => ?_, settled, ?_,
    State.Spares.answered (.of_taken_notices (dt := dt) ?_) _ _ _ _, fun n other => ?_, State.answered_replies _ _ _ _ _⟩
  · have moved := chan i
    rw [if_pos named] at moved
    exact ⟨moved.prot, moved.retries, moved.retryEnd, moved.cfg, moved.demand, moved.usage, moved.force⟩
  · have moved := chan i
    rw [if_neg (ne_true_of_eq_false other)] at moved
    exact moved.keeps
  · exact moves.holds.trans (s.taken_holds dt)
  · rw [moves.notices]; exact (State.cleared_spares _ _ _).trans moves.spares
  · exact kept n other

theorem clearUsage_clears (dt : Nat) (tag a b c : Byte) (s : State) (hears : s.Hears) :
    let u := s.taken dt
    let set := be24 a.toNat b.toNat c.toNat
    let hit : Ch → Bool := fun i => set.testBit i.val && s.chans[i].cfg.fitted
    let status : Status := if channels.any fun i => set.testBit i.val && !s.chans[i].cfg.fitted then .clamped else .ok
    exec (.clearUsage dt ⟨false, tag, [a, b, c]⟩) s = .next (State.answered
      { u with chans := Vector.ofFn fun i : Ch =>
          if hit i then { s.chans[i] with usage := 0 } else s.chans[i] } 0x15 tag status (setField hit)) := by
  intro u set hit status
  have runs := State.request_answered s dt 0x15 tag [a, b, c] ansClearUsage hears (by decide)
    (ansClearUsage_eq a.toNat b.toNat c.toNat _)
  refine runs.trans ?_
  simp only [State.accept, State.clearUsage, State.mapChans, State.effective_taken, State.cut_taken, State.taken_chans]
  rfl

/-- Settles O30: CLEAR_TRIP is the change of its effective set with LATCH treated (`State.clearTrips_moves`), moved by what settling
the outputs brings, and CLEAR_USAGE changes the usage alone. -/
theorem tripsAndUsageAreCleared : Obligations.TripsAndUsageAreCleared := fun dt tag a b c s hears _ =>
  ⟨clearTrip_clears dt tag a b c s hears, clearUsage_clears dt tag a b c s hears⟩

end Sys2Proof.Machine
end

section
/-! PROOFS. A write of one load record. -/

namespace Sys2Proof.Machine

/-! ### The characters of one load record (R66, R150) -/

@[simp] theorem LoadClass.ofCode_code (c : LoadClass) : LoadClass.ofCode c.code = some c := by cases c <;> rfl

/-- The numbers that a load record's sixteen characters carry (R66, R150). -/
theorem LoadSettings.field_numbers (w : LoadSettings) (tier : w.shedTier < 256) (trip : w.tripCount < 256)
    (blank : w.blanking < 256) (count : w.retryCount < 256) (delay : w.retryDelay < 256) :
    w.field.map BitVec.toNat = [bitIf w.fitted 1, w.cls.code, w.shedTier, w.limit / 256 % 256, w.limit % 256, w.tripCount,
      w.blanking, w.retryCount, w.retryDelay, w.minOn / 256 % 256, w.minOn % 256, w.minOff / 256 % 256, w.minOff % 256,
      w.openLevel / 256 % 256, w.openLevel % 256, bitIf w.startDemand 1] := by
  have fitted : bitIf w.fitted 1 % 256 = bitIf w.fitted 1 := by cases w.fitted <;> rfl
  have start : bitIf w.startDemand 1 % 256 = bitIf w.startDemand 1 := by cases w.startDemand <;> rfl
  have code : w.cls.code % 256 = w.cls.code := by cases w.cls <;> rfl
  simp only [LoadSettings.field, List.map_append, u8_map, u16_map, List.cons_append, List.nil_append, fitted, start, code,
    Nat.mod_eq_of_lt tier, Nat.mod_eq_of_lt trip, Nat.mod_eq_of_lt blank, Nat.mod_eq_of_lt count, Nat.mod_eq_of_lt delay]

/-- They are read as the settings that were written (R66). -/
theorem parseLoad_field (w : LoadSettings) (limit : w.limit < 65536) (minOn : w.minOn < 65536) (minOff : w.minOff < 65536)
    (openLevel : w.openLevel < 65536) :
    parseLoad [bitIf w.fitted 1, w.cls.code, w.shedTier, w.limit / 256 % 256, w.limit % 256, w.tripCount,
      w.blanking, w.retryCount, w.retryDelay, w.minOn / 256 % 256, w.minOn % 256, w.minOff / 256 % 256, w.minOff % 256,
      w.openLevel / 256 % 256, w.openLevel % 256, bitIf w.startDemand 1] = some w := by
  simp only [parseLoad, flagOf_bitIf, LoadClass.ofCode_code, be16_split _ limit, be16_split _ minOn, be16_split _ minOff,
    be16_split _ openLevel]

theorem loadRows_one {l : List Nat} (h : l.length = 16) : loadRows 1 l = some [l] := by
  have all : l.take 16 = l := List.take_of_length_le (by omega)
  have rest : l.drop 16 = [] := List.drop_of_length_le (by omega)
  simp [loadRows, h, all, rest]

/-- Settings that give the channel `i` new ones and leave every other its own. -/
def State.loadsAt (s : State) (i : Ch) (w : LoadSettings) (j : Ch) : LoadSettings := if j = i then w else s.chans[j].cfg

/-- A write of one record gives that channel its settings and leaves every other its own (R66). -/
theorem State.loadsWith_one (s : State) (i : Ch) (w : LoadSettings) :
    s.loadsWith (i.val + 1) [w] = s.loadsAt i w := by
  funext j
  unfold State.loadsAt
  rcases Nat.lt_trichotomy j.val i.val with below | same | above
  · have apart : j ≠ i := fun e => by rw [e] at below; exact Nat.lt_irrefl _ below
    rw [if_neg apart, State.loadsWith, channelNo, if_neg (by omega)]
  · obtain rfl := Fin.ext same
    simp [State.loadsWith, channelNo]
  · have apart : j ≠ i := fun e => by rw [e] at above; exact Nat.lt_irrefl _ above
    have none' : ([w] : List LoadSettings)[channelNo j - (i.val + 1)]? = none :=
      List.getElem?_eq_none (by rw [List.length_singleton, channelNo]; omega)
    rw [if_neg apart, State.loadsWith, none', Option.getD_none, ite_self]

/-- A LOADS write of one readable record is granted while INSTALL is asserted and no save runs (R66, R156, R171). -/
theorem ansWriteLoads_one (s : State) (i : Ch) (l : List Nat) (w : LoadSettings) (length : l.length = 16)
    (read : parseLoad l = some w) (install : s.power.install.deb = true) (idle : s.isSaving = false) :
    ansWriteLoads ((i.val + 1) :: l) s = (s.setLoads (s.loadsAt i w.clamp)).accept
      (if w.clamp = w then .ok else .clamped) (u8 (i.val + 1) ++ w.clamp.field) := by
  have one : l.length / 16 = 1 := by rw [length]
  have place : ¬(i.val + 1 = 0 ∨ 25 < i.val + 1 + 1) := by have := i.isLt; omega
  have stored : (decide ([w.clamp] ≠ [w])) = decide ¬(w.clamp = w) := by simp
  simp only [ansWriteLoads, one, loadRows_one length]
  rw [if_neg (by decide), if_neg place]
  simp only [List.map_cons, List.map_nil, read, allSome, Option.map_some, List.flatMap_cons, List.flatMap_nil,
    List.append_nil, State.loadsWith_one, stored, clampedIf_eq]
  have free (a : Answer) : s.whenIdle a = a := by rw [State.whenIdle, idle]; rfl
  rw [State.whenInstaller_granted _ _ install idle, free, ite_self]

theorem ansWriteLoads_field (s : State) (i : Ch) (w : LoadSettings) (install : s.power.install.deb = true)
    (idle : s.isSaving = false) (tier : w.shedTier < 256) (limit : w.limit < 65536) (trip : w.tripCount < 256)
    (blank : w.blanking < 256) (count : w.retryCount < 256) (delay : w.retryDelay < 256) (minOn : w.minOn < 65536)
    (minOff : w.minOff < 65536) (openLevel : w.openLevel < 65536) :
    ansWriteLoads ((u8 (i.val + 1) ++ w.field).map BitVec.toNat) s =
      (s.setLoads (s.loadsAt i w.clamp)).accept
        (if w.clamp = w then .ok else .clamped) (u8 (i.val + 1) ++ w.clamp.field) := by
  rw [List.map_append, u8_number, List.singleton_append, w.field_numbers tier trip blank count delay]
  exact ansWriteLoads_one s i _ w rfl (parseLoad_field w limit minOn minOff openLevel) install idle

/-! ### What new settings make of a channel (R67, R69, R70, R99) -/

theorem Chan.write_self (c : Chan) : c.write c.cfg = c := by
  rw [Chan.write_idle c c.cfg (by simp [LoadSettings.actsOnShedding])]

theorem Chan.write_usage (c : Chan) (cfg : LoadSettings) : (c.write cfg).usage = c.usage := by
  simp only [Chan.write]; split_ifs <;> rfl

theorem Chan.write_out (c : Chan) (cfg : LoadSettings) : (c.write cfg).out = c.out := by
  simp only [Chan.write]; split_ifs <;> rfl

/-- A channel made not fitted loses its demand, mark, force and trip history (R69). -/
theorem Chan.write_unfit {c : Chan} {cfg : LoadSettings} (fitted : c.cfg.fitted = true) (unfitted : cfg.fitted = false) :
    (c.write cfg).demand = false ∧ (c.write cfg).mark = none ∧ (c.write cfg).force = .none ∧
      (c.write cfg).prot = .normal ∧ (c.write cfg).retries = 0 ∧ (c.write cfg).retryEnd = none := by
  simp only [Chan.write, fitted, unfitted]
  split <;> exact ⟨rfl, rfl, rfl, rfl, rfl, rfl⟩

/-- A channel made fitted starts with demand OFF in NORMAL, with no retry used (R70). -/
theorem Chan.write_fit {c : Chan} {cfg : LoadSettings} (unfitted : c.cfg.fitted = false) (fitted : cfg.fitted = true) :
    (c.write cfg).demand = false ∧ (c.write cfg).prot = .normal ∧ (c.write cfg).retries = 0 := by
  simp only [Chan.write, fitted, unfitted]
  split <;> exact ⟨rfl, rfl, rfl⟩

/-- Where the fitted flag stands, so do the demand, the protection and the force (R67). -/
theorem Chan.write_stands {c : Chan} {cfg : LoadSettings} (same : c.cfg.fitted = cfg.fitted) :
    (c.write cfg).demand = c.demand ∧ (c.write cfg).prot = c.prot ∧ (c.write cfg).retries = c.retries ∧
      (c.write cfg).force = c.force := by
  simp only [Chan.write, same, Bool.and_not_self, Bool.not_and_self, Bool.false_eq_true, if_false]
  split <;> exact ⟨rfl, rfl, rfl, rfl⟩

/-- A change to class EXEMPT clears the mark (R99). -/
theorem Chan.write_exempt {c : Chan} {cfg : LoadSettings} (before : c.cfg.cls ≠ .exempt) (after : cfg.cls = .exempt) :
    (c.write cfg).mark = none := by
  simp only [Chan.write]; rw [if_pos ⟨before, after⟩]

/-! ### What new settings act on (R67, R126) -/

theorem LoadSettings.actsOnShedding_unfit {old new : LoadSettings} (fitted : old.fitted = true) (unfitted : new.fitted = false) :
    old.actsOnShedding new = true := by simp [LoadSettings.actsOnShedding, fitted, unfitted]

theorem LoadSettings.actsOnShedding_exempt {old new : LoadSettings} (before : old.cls ≠ .exempt) (after : new.cls = .exempt) :
    old.actsOnShedding new = true := by simp [LoadSettings.actsOnShedding, before, after]

theorem LoadSettings.dropsHold_unfit {old new : LoadSettings} (fitted : old.fitted = true) (unfitted : new.fitted = false) :
    old.dropsHold new = true := by simp [LoadSettings.dropsHold, fitted, unfitted]

theorem LoadSettings.dropsHold_self (w : LoadSettings) : w.dropsHold w = false := by
  simp only [LoadSettings.dropsHold, Bool.and_not_self, Bool.false_or]
  cases w.cls <;> rfl

/-! ### What new settings make of the part -/

theorem State.setLoads_moves (s : State) (new : Ch → LoadSettings) : (s.writeLoads new).Moves (s.setLoads new) := by
  simp only [State.setLoads]; split
  · exact State.resolve_moves _
  · exact .refl _

theorem State.setLoads_resolve {s : State} {new : Ch → LoadSettings} {i : Ch}
    (acts : s.chans[i].cfg.actsOnShedding (new i) = true) : s.setLoads new = (s.writeLoads new).resolve := by
  have some' : (channels.any fun i => s.chans[i].cfg.actsOnShedding (new i)) = true :=
    List.any_eq_true.2 ⟨i, List.mem_finRange i, acts⟩
  simp only [State.setLoads]
  rw [if_pos some']

/-- Settings that take a channel from the Sequencer are followed by its own derivation (R67, R69, R99). -/
theorem State.setLoads_get {s : State} {new : Ch → LoadSettings} {i : Ch}
    (acts : s.chans[i].cfg.actsOnShedding (new i) = true) (unmarked : (s.chans[i].write (new i)).mark = none)
    (idle : ¬(s.chans[i].write (new i)).Sheddable) :
    (s.setLoads new).chans[i] = (s.chans[i].write (new i)).derive s.now := by
  have leaves : (s.writeLoads new).Leaves i := .of_idle (by rw [s.writeLoads_get]; exact unmarked) (by rwa [s.writeLoads_get])
  rw [State.setLoads_resolve acts, leaves.resolve, s.writeLoads_get]
  simp only [State.writeLoads, State.dropHolds_now, State.mapChans_now]

theorem State.writeLoads_holds (s : State) (new : Ch → LoadSettings) :
    (s.writeLoads new).holds = s.holds.filter fun e => !s.chans[e.ch].cfg.dropsHold (new e.ch) := by
  simp only [State.writeLoads, State.dropHolds, State.mapChans_holds]

/-- New settings spare all but the channels, the holds and the notices. -/
theorem State.writeLoads_spares (s : State) (new : Ch → LoadSettings) :
    State.Spares { s with notices := (s.writeLoads new).notices } (s.writeLoads new) := by
  constructor <;> simp [State.writeLoads]

theorem State.setLoads_at {s : State} {i : Ch} {w : LoadSettings} (acts : s.chans[i].cfg.actsOnShedding w = true)
    (unmarked : (s.chans[i].write w).mark = none) (idle : ¬(s.chans[i].write w).Sheddable) :
    (s.setLoads (s.loadsAt i w)).chans[i] = (s.chans[i].write w).derive s.now := by
  have taken := State.setLoads_get (s := s) (new := s.loadsAt i w) (i := i)
  rw [show s.loadsAt i w i = w from if_pos rfl] at taken
  exact taken acts unmarked idle

/-- A channel made not fitted loses its output besides, with the cause DEMAND (R69, R78). -/
theorem State.setLoads_unfitted (s : State) (i : Ch) (w : LoadSettings) (fitted : s.chans[i].cfg.fitted = true)
    (unfitted : w.fitted = false) :
    ((s.setLoads (s.loadsAt i w)).chans[i]).mark = none ∧ ((s.setLoads (s.loadsAt i w)).chans[i]).out = false ∧
      (s.chans[i].out = true → ((s.setLoads (s.loadsAt i w)).chans[i]).lastOff = ⟨.demand, 0⟩) := by
  obtain ⟨demand, mark, force, -⟩ := Chan.write_unfit fitted unfitted
  have unwanted : (s.chans[i].write w).wanted = false := Chan.wanted_of_quiet demand (by rw [force]; decide)
  have bare : (s.chans[i].write w).cfg.fitted = false := by rw [Chan.write_cfg, unfitted]
  have derived := State.setLoads_at (LoadSettings.actsOnShedding_unfit fitted unfitted) mark
    fun shed => by rw [shed.1] at bare; cases bare
  rw [derived]
  refine ⟨by rw [Chan.derive_mark, mark], Chan.derive_out_unwanted _ unwanted, fun lit => ?_⟩
  rw [Chan.derive_turnOff _ ((Chan.write_out _ _).trans lit) unwanted, Chan.turnOff_lastOff, Chan.offCause, bare]
  rfl

/-- A channel made EXEMPT loses its mark for good (R99). -/
theorem State.setLoads_exempt (s : State) (i : Ch) (w : LoadSettings) (before : s.chans[i].cfg.cls ≠ .exempt)
    (after : w.cls = .exempt) : ((s.setLoads (s.loadsAt i w)).chans[i]).mark = none := by
  have unmarked : (s.chans[i].write w).mark = none := Chan.write_exempt before after
  rw [State.setLoads_at (LoadSettings.actsOnShedding_exempt before after) unmarked, Chan.derive_mark, unmarked]
  exact fun shed => shed.2.2.2 (by rw [Chan.write_cfg, after])

/-- Settles O35: the characters are read as the settings written (`ansWriteLoads_field`), and the channel takes them
(`Chan.write_unfit`, `Chan.write_fit`, `Chan.write_stands`); what follows is a move of the Sequencer, or nothing but the channel's
own derivation where the settings take it from the Sequencer (`State.setLoads_unfitted`, `State.setLoads_exempt`). -/
theorem loadWriteActsOnItsChannel : Obligations.LoadWriteActsOnItsChannel := by
  intro dt tag s i w hears _ install idle tier limit trip blank count delay minOn minOff openLevel old
  have runs := State.request_answered s dt 0x31 tag _ ansWriteLoads hears (by decide)
    (ansWriteLoads_field (s.taken dt) i w (by simpa using install) (by simpa using idle) tier limit trip blank count delay
      minOn minOff openLevel)
  simp only [State.accept] at runs
  have moves := (s.taken dt).setLoads_moves ((s.taken dt).loadsAt i w.clamp)
  have unfit := (s.taken dt).setLoads_unfitted i w.clamp
  have exempt := (s.taken dt).setLoads_exempt i w.clamp
  have drops : (s.taken dt).loadsAt i w.clamp = s.loadsAt i w.clamp := by
    funext j; simp only [State.loadsAt, State.taken_chans]
  rw [drops] at runs moves unfit exempt
  have spares := (s.taken dt).writeLoads_spares (s.loadsAt i w.clamp)
  have chan (j : Ch) := moves.chans j
  have holds := moves.holds
  rw [State.writeLoads_holds] at holds
  simp only [State.writeLoads_get, State.taken_chans, State.taken_holds] at chan holds unfit exempt
  generalize (s.taken dt).setLoads (s.loadsAt i w.clamp) = t at runs moves unfit exempt chan holds
  have here : s.chans[i].write (s.loadsAt i w.clamp i) = old.write w.clamp := by rw [State.loadsAt, if_pos rfl]
  have there (j : Ch) (apart : j ≠ i) : s.loadsAt i w.clamp j = s.chans[j].cfg := if_neg apart
  have own : (old.write w.clamp).Moves t.chans[i] := here ▸ chan i
  refine ⟨_, runs, ?_⟩
  simp only [State.answered_chans, State.answered_holds, State.answered_notices]
  refine ⟨own.cfg.trans (Chan.write_cfg _ _), own.usage.trans (Chan.write_usage _ _), fun j apart => ?_,
    fun fitted unfitted => ?_, fun unfitted fitted => ?_, fun same => ?_, exempt, fun e entry apart => ?_, ?_,
    State.answered_replies _ _ _ _ _⟩
  · have kept := (chan j).keeps
    rwa [there j apart, Chan.write_self] at kept
  · obtain ⟨demand, -, force, prot, retries, retryEnd⟩ := Chan.write_unfit (cfg := w.clamp) fitted unfitted
    obtain ⟨mark, out, lastOff⟩ := unfit fitted unfitted
    refine ⟨own.demand.trans demand, mark, own.force.trans force, own.prot.trans prot, own.retries.trans retries,
      own.retryEnd.trans retryEnd, out, fun e entry same => ?_, lastOff⟩
    have drop (j : Ch) (h : j = i) : s.chans[j].cfg.dropsHold (s.loadsAt i w.clamp j) = true := by
      rw [State.loadsAt, if_pos h, h]; exact LoadSettings.dropsHold_unfit fitted unfitted
    rw [holds] at entry
    have stays := (List.mem_filter.1 entry).2
    rw [drop e.ch same] at stays
    cases stays
  · obtain ⟨demand, prot, retries⟩ := Chan.write_fit (cfg := w.clamp) unfitted fitted
    exact ⟨own.demand.trans demand, own.prot.trans prot, own.retries.trans retries⟩
  · obtain ⟨demand, prot, retries, force⟩ := Chan.write_stands (cfg := w.clamp) same
    exact ⟨own.demand.trans demand, own.prot.trans prot, own.retries.trans retries, own.force.trans force⟩
  · rw [holds, List.mem_filter]
    refine ⟨entry, ?_⟩
    rw [there e.ch apart, LoadSettings.dropsHold_self]; rfl
  · rw [moves.notices]
    exact (State.Spares.of_taken_notices (dt := dt) (spares.trans moves.spares)).answered _ _ _ _

end Sys2Proof.Machine
end

section
/-! PROOFS. The ends of a channel's timers and locks, of the spacings and of the settle time. -/

namespace Sys2Proof.Machine

/-! ### One channel at an event -/

/-- A change of one channel by a rule of its own. -/
theorem State.setChan_eq (s : State) (i : Ch) (f : Chan → Chan) : s.setChan i (f s.chans[i]) =
    { s with chans := Vector.ofFn fun j : Ch => if j = i then f s.chans[j] else s.chans[j] } := by
  have chans : (s.setChan i (f s.chans[i])).chans = Vector.ofFn fun j : Ch => if j = i then f s.chans[j] else s.chans[j] := by
    ext1 j hj
    rw [Vector.getElem_ofFn]
    refine (s.setChan_get i _ ⟨j, hj⟩).trans ?_
    split
    · rename_i e; rw [← e]
    · rfl
  rw [← chans]; rfl

theorem State.elapse_spares (s : State) (dt : Nat) : s.Spares (s.elapse dt) := by constructor <;> simp

theorem State.setChan_spares (s : State) (i : Ch) (c : Chan) : s.Spares (s.setChan i c) := by constructor <;> simp

theorem State.elapse_lawful {s : State} (awake : s.inReset = none) (law : s.OutputLaw) (dt : Nat) :
    (s.elapse dt).lawful = true :=
  (State.outputLaw_awake (by rw [State.elapse_inReset, awake])).1 (by simpa [State.OutputLaw] using law)

/-! ### RETRY_EXPIRY, GOOD_RUN and BLANKING_END (R75, R82, R83) -/

/-- At depth 0 and outside SETTLE a channel that nothing holds comes on when the outputs are settled (R71, R82). -/
theorem State.resolveOutputs_on (s : State) (i : Ch) (depth : s.tiers.depth = 0) (settled : s.seq.st ≠ .settle)
    (law : s.chans[i].law = true) : s.resolveOutputs.chans[i].out = true := State.settleOutputs_on _ _ depth settled i law

theorem Chan.toNormal_keeps (c : Chan) : c.toNormal.prot = .normal ∧ c.toNormal.retryEnd = none ∧
    c.toNormal.retries = c.retries ∧ c.toNormal.cfg = c.cfg ∧ c.toNormal.demand = c.demand ∧ c.toNormal.force = c.force ∧
    c.toNormal.usage = c.usage ∧ c.toNormal.mark = c.mark ∧ c.toNormal.restLock = c.restLock :=
  ⟨rfl, rfl, rfl, rfl, rfl, rfl, rfl, rfl, rfl⟩

/-- A retry expiry brings its channel to NORMAL and settles the outputs (R82). -/
theorem retryExpiry_restores (dt e : Nat) (i : Ch) (s : State) (awake : s.inReset = none) (due : e ≤ s.now + dt)
    (waits : s.chans[i].prot = .tripWait) (timer : s.chans[i].retryEnd = some e) : ∃ t,
      exec (.retryExpiry dt i) s = .next t ∧ t.chans[i].prot = .normal ∧ t.chans[i].retryEnd = none ∧
      t.chans[i].retries = s.chans[i].retries ∧ t.chans[i].cfg = s.chans[i].cfg ∧
      t.chans[i].demand = s.chans[i].demand ∧ t.chans[i].force = s.chans[i].force ∧
      t.chans[i].usage = s.chans[i].usage ∧ (∀ j : Ch, j ≠ i → s.chans[j].Keeps t.chans[j]) ∧
      (∀ j : Ch, t.chans[j].out = t.chans[j].law) ∧ s.Spares t ∧ t.holds = s.holds ∧ t.link = s.link ∧
      (s.chans[i].cfg.fitted = true → s.chans[i].demand = true → s.chans[i].force = .none → s.chans[i].mark = none →
        s.chans[i].restLock = none → s.seq.st ≠ .settle → s.tiers.depth = 0 → t.chans[i].out = true) := by
  have runs : exec (.retryExpiry dt i) s = .next ((s.elapse dt).setChan i s.chans[i].toNormal).resolveOutputs := by
    have now : reached (s.now + dt) s.chans[i].retryEnd = true := by rw [timer]; exact decide_eq_true due
    exact (State.event_eq s dt _ awake).trans (congrArg _ (if_pos ⟨waits, now⟩))
  have lawful := State.resolveOutputs_lawful ((s.elapse dt).setChan i s.chans[i].toNormal)
  have on := State.resolveOutputs_on ((s.elapse dt).setChan i s.chans[i].toNormal) i
  have moves := State.resolveOutputs_moves ((s.elapse dt).setChan i s.chans[i].toNormal)
  have chan (j : Ch) : (if j = i then s.chans[i].toNormal else s.chans[j]).Moves
      ((s.elapse dt).setChan i s.chans[i].toNormal).resolveOutputs.chans[j] := by
    have before : ((s.elapse dt).setChan i s.chans[i].toNormal).chans[j] = if j = i then s.chans[i].toNormal else s.chans[j] :=
      State.setChan_get _ _ _ _
    rw [← before]; exact moves.chans j
  generalize State.resolveOutputs _ = t at runs lawful on moves chan
  have own := chan i
  rw [if_pos rfl] at own
  obtain ⟨prot, retryEnd, retries, cfg, demand, force, usage, mark, restLock⟩ := s.chans[i].toNormal_keeps
  refine ⟨t, runs, own.prot.trans prot, own.retryEnd.trans retryEnd, own.retries.trans retries, own.cfg.trans cfg,
    own.demand.trans demand, own.force.trans force, own.usage.trans usage, fun j apart => ?_, lawful, ?_,
    moves.holds, moves.link, fun fitted wanted unforced unmarked unlocked unsettled depth => ?_⟩
  · have moved := chan j
    rw [if_neg apart] at moved
    exact moved.keeps
  · exact ((s.elapse_spares dt).trans (State.setChan_spares _ _ _)).trans moves.spares
  · refine on depth unsettled ?_
    rw [State.setChan_get, if_pos rfl]
    exact Chan.law_of_free (by rw [cfg]; exact fitted) prot (force.trans unforced) (demand.trans wanted) (mark.trans unmarked)
      (restLock.trans unlocked)

/-- Settles O57: the retry expiry is a change of its channel that settling the outputs follows (`retryExpiry_restores`), and the
other two change their channel alone (`State.setChan_eq`). -/
theorem retryGoodRunAndBlankingEnd : Obligations.RetryGoodRunAndBlankingEnd := by
  intro dt e i s awake due
  refine ⟨fun _ waits timer => retryExpiry_restores dt e i s awake due waits timer, fun run long => ?_, fun timer => ?_⟩
  · have reaches : reached (s.now + dt) (s.chans[i].goodRun.map (· + Config.goodRunUnits)) = true := by
      rw [run]
      have whole : e - 60 * Config.unitsPerSecond + Config.goodRunUnits = e := Nat.sub_add_cancel long
      simp only [Option.map_some, whole]
      exact decide_eq_true due
    refine (State.event_eq s dt _ awake).trans (congrArg _ ((if_pos reaches).trans ?_))
    exact State.setChan_eq (s.elapse dt) i fun c => { c with retries := 0, goodRun := none }
  · have reaches : reached (s.now + dt) s.chans[i].blankEnd = true := by rw [timer]; exact decide_eq_true due
    refine (State.event_eq s dt _ awake).trans (congrArg _ ((if_pos reaches).trans ?_))
    exact State.setChan_eq (s.elapse dt) i fun c => { c with blankEnd := none }

end Sys2Proof.Machine
end

section
/-! PROOFS. The ends of the locks, of the spacings and of the settle time. -/

namespace Sys2Proof.Machine

/-! ### The priority list (R93, R102, R105) -/

theorem State.OrderLaw.mem {s : State} (h : s.OrderLaw) (i : Ch) : i ∈ s.seq.order :=
  List.one_le_count_iff.1 (h i).ge

theorem State.OrderLaw.nodup {s : State} (h : s.OrderLaw) : s.seq.order.Nodup :=
  List.nodup_iff_count_le_one.2 fun i => (h i).le

/-- The first of a list that meets a condition is the one before which none does. -/
theorem find?_first {l : List Ch} {p : Ch → Bool} {i : Ch} (mem : i ∈ l) (takes : p i = true)
    (before : ∀ j, l.idxOf j < l.idxOf i → p j = false) : l.find? p = some i := by
  induction l with
  | nil => cases mem
  | cons a l ih =>
    by_cases here : a = i
    · rw [List.find?_cons, here, takes]
    · have skip : p a = false := before a (by rw [List.idxOf_cons_self, List.idxOf_cons_ne l here]; exact Nat.succ_pos _)
      rw [List.find?_cons, skip]
      refine ih ((List.mem_cons.1 mem).resolve_left fun e => here e.symm) fun j earlier => ?_
      by_cases first : a = j
      · rw [← first, skip]
      · exact before j (by rw [List.idxOf_cons_ne l first, List.idxOf_cons_ne l here]; omega)

/-- The last of a list without repetition that meets a condition is the one after which none does. -/
theorem find?_last {l : List Ch} {p : Ch → Bool} {i : Ch} (nodup : l.Nodup) (mem : i ∈ l) (takes : p i = true)
    (after : ∀ j ∈ l, l.idxOf i < l.idxOf j → p j = false) : l.reverse.find? p = some i := by
  induction l with
  | nil => cases mem
  | cons a l ih =>
    obtain ⟨fresh, rest⟩ := List.nodup_cons.1 nodup
    have apart (j : Ch) (inside : j ∈ l) : a ≠ j := fun e => fresh (by rw [e]; exact inside)
    rw [List.reverse_cons, List.find?_append]
    by_cases here : a = i
    · have none' : l.reverse.find? p = none := List.find?_eq_none.2 fun j inside => by
        have tail := List.mem_reverse.1 inside
        rw [after j (List.mem_cons_of_mem _ tail) (by rw [← here, List.idxOf_cons_self, List.idxOf_cons_ne l (apart j tail)]; omega)]
        exact Bool.false_ne_true
      rw [none', here, List.find?_singleton, takes]; rfl
    · rw [ih rest ((List.mem_cons.1 mem).resolve_left fun e => here e.symm) fun j tail later =>
        after j (List.mem_cons_of_mem _ tail) (by rw [List.idxOf_cons_ne l (apart j tail), List.idxOf_cons_ne l here]; omega)]
      rfl

/-! ### A reconsideration outside SETTLE and above the cutoff -/

/-- No mass shed and no marking in SETTLE: a reconsideration takes at most a step (R108, R114, R117). -/
theorem State.reconsider_eq {s : State} (depth : s.tiers.depth ≠ 5) (settled : s.seq.st ≠ .settle) :
    s.reconsider = { s.takeStep with seq := { s.takeStep.seq with st := s.takeStep.seqState false } } := by
  have first : s.massShed = s := if_neg fun both => depth both.1
  have second : s.markSettle = s := if_neg settled
  have ended : s.settling = false := by simp [State.settling, settled]
  simp only [State.reconsider, first, second, ended]

theorem State.seqState_st (s : State) : s.seqState false ≠ .settle := by
  unfold State.seqState; split_ifs <;> simp_all

/-- A step has just been taken, or none is due: no spacing has passed, above the cutoff and outside SETTLE (R101). -/
structure State.Spaced (s : State) : Prop where
  depth : s.tiers.depth ≠ 5
  settled : s.seq.st ≠ .settle
  shed : s.spacingPassed s.seq.cfg.shedSpacing = false
  restore : s.spacingPassed s.seq.cfg.restoreSpacing = false

theorem State.Spaced.takeStep {s : State} (h : s.Spaced) : s.takeStep = s := by
  have shed : s.shedChoice = none := if_neg fun all => by rw [h.shed] at all; cases all.2.2
  have restore : s.restoreChoice = none := by simp [State.restoreChoice, h.restore]
  simp only [State.takeStep, shed, restore]

/-- Then a reconsideration forms the sequencer state alone. -/
theorem State.Spaced.reconsider {s : State} (h : s.Spaced) :
    s.reconsider = { s with seq := { s.seq with st := s.seqState false } } := by
  rw [State.reconsider_eq h.depth h.settled, h.takeStep]

/-- Settling outputs that stand as the law says changes no channel and nothing of the Sequencer. -/
theorem State.settleOutputs_lawful_eq {s : State} (h : s.lawful = true) (n : Nat) :
    (∀ i : Ch, (s.settleOutputs n).chans[i] = s.chans[i]) ∧ (s.settleOutputs n).seq = s.seq := by
  cases n with
  | zero =>
    refine ⟨fun i => ?_, s.derive_seq⟩
    rw [State.settleOutputs, State.derive_get]
    exact Chan.derive_of_law _ _ ((State.lawful_iff s).1 h i).symm
  | succ n => rw [State.settleOutputs, if_pos h]; exact ⟨fun _ => rfl, rfl⟩

/-- While no spacing has passed, settling the outputs derives each channel once, and takes no step. -/
theorem State.Spaced.settleOutputs {s : State} (h : s.Spaced) (n : Nat) :
    (∀ i : Ch, (s.settleOutputs n).chans[i] = s.chans[i].derive s.now) ∧ (s.settleOutputs n).seq.lastStep = s.seq.lastStep := by
  cases n with
  | zero => exact ⟨s.derive_get, by rw [State.settleOutputs, State.derive_seq]⟩
  | succ n =>
    unfold State.settleOutputs; split
    · rename_i lawful
      exact ⟨fun i => (Chan.derive_of_law _ _ ((State.lawful_iff s).1 lawful i).symm).symm, rfl⟩
    · have spaced : s.derive.Spaced :=
        ⟨by rw [State.derive_tiers]; exact h.depth, by rw [State.derive_seq]; exact h.settled,
          by simpa only [State.spacingPassed, State.derive_seq, State.derive_now] using h.shed,
          by simpa only [State.spacingPassed, State.derive_seq, State.derive_now] using h.restore⟩
      have lawful : s.derive.reconsider.lawful = true := by
        rw [spaced.reconsider]; exact (State.lawful_iff _).2 s.derive_lawful
      obtain ⟨chans, seq⟩ := State.settleOutputs_lawful_eq lawful n
      refine ⟨fun i => ?_, ?_⟩
      · rw [chans i, spaced.reconsider]; exact s.derive_get i
      · rw [seq, spaced.reconsider]; simp only [State.derive_seq]

/-! ### RUN_LOCK_EXPIRY (R74, R101) -/

/-- At depth 0 and without a mark there is no candidate: a reconsideration outside SETTLE leaves STEADY (R98, R115). -/
theorem State.reconsider_steady {s : State} (depth : s.tiers.depth = 0) (settled : s.seq.st ≠ .settle)
    (unmarked : ∀ i : Ch, s.chans[i].mark = none) : s.reconsider = { s with seq := { s.seq with st := .steady } } := by
  have noShed (i : Ch) : s.shedCandidate i = false := by rw [State.shedCandidate, s.mustShed_zero depth, Bool.false_and]
  have noRestore (i : Ch) : s.restoreCandidate i = false := by
    have bare : s.chans[i].mark.isSome = false := by rw [unmarked]; rfl
    simp only [State.restoreCandidate, bare, Bool.false_and]
  have shed : s.shedChoice = none := if_neg fun all => by rw [depth] at all; cases all.1
  have restore : s.restoreChoice = none := by
    unfold State.restoreChoice; split
    · exact List.find?_eq_none.2 fun i _ => by rw [noRestore]; exact Bool.false_ne_true
    · rfl
  have same : s.takeStep = s := by simp only [State.takeStep, shed, restore]
  have steady : s.seqState false = .steady := by simp [State.seqState, noShed, noRestore]
  rw [State.reconsider_eq (by rw [depth]; decide) settled, same, steady]

theorem State.resolve_steady {s : State} (lawful : s.lawful = true) (depth : s.tiers.depth = 0) (settled : s.seq.st ≠ .settle)
    (unmarked : ∀ i : Ch, s.chans[i].mark = none) : s.resolve = { s with seq := { s.seq with st := .steady } } := by
  rw [State.resolve, State.reconsider_steady depth settled unmarked]
  exact if_pos lawful

/-- A channel whose run lock has passed (R74). -/
def Chan.endRunLock (c : Chan) : Chan := { c with runLock := none }

/-- A channel whose rest lock has passed (R74). -/
def Chan.endRestLock (c : Chan) : Chan := { c with restLock := none }

theorem Chan.endRestLock_keeps (c : Chan) : c.Keeps c.endRestLock := ⟨rfl, rfl, rfl, rfl, rfl, rfl, rfl⟩

theorem Chan.Keeps.trans {c d e : Chan} (h : c.Keeps d) (k : d.Keeps e) : c.Keeps e :=
  ⟨k.cfg.trans h.cfg, k.demand.trans h.demand, k.prot.trans h.prot, k.retries.trans h.retries, k.retryEnd.trans h.retryEnd,
    k.usage.trans h.usage, k.force.trans h.force⟩

/-- The part with one channel changed after the time has passed: what else stands (R74). -/
structure State.Alters (s : State) (dt : Nat) (i : Ch) (c : Chan) (t : State) : Prop where
  chans (j : Ch) : t.chans[j] = if j = i then c else s.chans[j]
  now : t.now = s.now + dt
  tiers : t.tiers = s.tiers
  seq : t.seq = s.seq
  holds : t.holds = s.holds
  link : t.link = s.link
  spares : s.Spares t

theorem State.setChan_alters (s : State) (dt : Nat) (i : Ch) (c : Chan) : s.Alters dt i c ((s.elapse dt).setChan i c) :=
  ⟨fun _ => State.setChan_get _ _ _ _, rfl, rfl, rfl, rfl, rfl, (s.elapse_spares dt).trans (State.setChan_spares _ _ _)⟩

theorem State.Alters.here {s t : State} {dt : Nat} {i : Ch} {c : Chan} (h : s.Alters dt i c t) : t.chans[i] = c := by
  rw [h.chans, if_pos rfl]

theorem State.Alters.keeps {s t : State} {dt : Nat} {i : Ch} {c : Chan} (h : s.Alters dt i c t) (k : s.chans[i].Keeps c)
    (j : Ch) : s.chans[j].Keeps t.chans[j] := by
  rw [h.chans]; split
  · rename_i e; rw [e]; exact k
  · exact ⟨rfl, rfl, rfl, rfl, rfl, rfl, rfl⟩

theorem State.Alters.vector {s t : State} {dt : Nat} {i : Ch} (f : Chan → Chan) (h : s.Alters dt i (f s.chans[i]) t) :
    t.chans = Vector.ofFn fun j : Ch => if j = i then f s.chans[j] else s.chans[j] := by
  ext1 j hj
  rw [Vector.getElem_ofFn]
  refine (h.chans ⟨j, hj⟩).trans ?_
  split
  · rename_i e; rw [← e]
  · rfl

/-- The end of a run lock where nothing is to be shed or restored stops it, and no more (R74). -/
theorem runLockExpiry_steady (dt e : Nat) (i : Ch) (s : State) (awake : s.inReset = none) (law : s.OutputLaw)
    (lock : s.chans[i].runLock = some e) (due : e ≤ s.now + dt) (settled : s.seq.st ≠ .settle) (depth : s.tiers.depth = 0)
    (unmarked : ∀ j : Ch, s.chans[j].mark = none) : ∃ t, exec (.runLockExpiry dt i) s = .next t ∧
      t.chans = Vector.ofFn (fun j : Ch => if j = i then { s.chans[j] with runLock := none } else s.chans[j]) ∧
      s.Spares t ∧ t.holds = s.holds ∧ t.link = s.link ∧ t.seq.st = .steady := by
  have reaches : reached (s.now + dt) s.chans[i].runLock = true := by rw [lock]; exact decide_eq_true due
  have runs : exec (.runLockExpiry dt i) s = .next ((s.elapse dt).setChan i s.chans[i].endRunLock).resolve :=
    (State.event_eq s dt _ awake).trans (congrArg _ (if_pos reaches))
  have ran : (s.elapse dt).Runs ((s.elapse dt).setChan i s.chans[i].endRunLock) := State.setChan_runs _ i ⟨rfl, id⟩ rfl rfl
  have lawful := ran.lawful (State.elapse_lawful awake law dt)
  have alters := s.setChan_alters dt i s.chans[i].endRunLock
  generalize (s.elapse dt).setChan i s.chans[i].endRunLock = v at runs lawful alters
  have bare (j : Ch) : v.chans[j].mark = none := by
    rw [alters.chans]; split
    · exact unmarked i
    · exact unmarked j
  rw [State.resolve_steady lawful (by rw [alters.tiers, depth]) (by rw [alters.seq]; exact settled) bare] at runs
  exact ⟨_, runs, alters.vector Chan.endRunLock, alters.spares.trans (State.formed_moves (.refl v) .steady).spares, alters.holds, alters.link, rfl⟩

/-! ### REST_LOCK_EXPIRY (R74) -/

/-- The end of a rest lock derives the outputs, and a channel that nothing else holds comes on (R74). -/
theorem restLockExpiry_restores (dt e : Nat) (i : Ch) (s : State) (awake : s.inReset = none) (law : s.OutputLaw)
    (lock : s.chans[i].restLock = some e) (due : e ≤ s.now + dt) (settled : s.seq.st ≠ .settle) (depth : s.tiers.depth = 0)
    (unmarked : s.chans[i].mark = none) :
    ∃ t, exec (.restLockExpiry dt i) s = .next t ∧ s.Spares t ∧ t.holds = s.holds ∧ t.link = s.link ∧
      (∀ j : Ch, s.chans[j].Keeps t.chans[j]) ∧ (∀ j : Ch, t.chans[j].out = t.chans[j].law) ∧
      (s.chans[i].cfg.fitted = true → s.chans[i].demand = true → s.chans[i].prot = .normal →
        s.chans[i].force = .none → t.chans[i].out = true ∧ t.chans[i].goodRun = some (s.now + dt)) := by
  have reaches : reached (s.now + dt) s.chans[i].restLock = true := by rw [lock]; exact decide_eq_true due
  have runs : exec (.restLockExpiry dt i) s = .next ((s.elapse dt).setChan i s.chans[i].endRestLock).derive.resolve :=
    (State.event_eq s dt _ awake).trans (congrArg _ (if_pos reaches))
  have alters := s.setChan_alters dt i s.chans[i].endRestLock
  generalize (s.elapse dt).setChan i s.chans[i].endRestLock = v at runs alters
  have moves := v.derive_moves.trans v.derive.resolve_moves
  refine ⟨_, runs, alters.spares.trans moves.spares, moves.holds.trans alters.holds, moves.link.trans alters.link,
    fun j => (alters.keeps s.chans[i].endRestLock_keeps j).trans (moves.chans j).keeps, v.derive.resolve_lawful,
    fun fitted demand prot force => ?_⟩
  have off : s.chans[i].endRestLock.out = false := by
    have held : s.chans[i].law = false := by simp only [Chan.law, force, lock, Option.isNone_some, Bool.and_false]; simp
    exact ((State.lawful_iff s).1 ((State.outputLaw_awake awake).1 law) i).trans held
  have free : s.chans[i].endRestLock.law = true := Chan.law_of_free fitted prot force demand unmarked rfl
  have leaves : v.derive.Leaves i := by
    refine ⟨?_, State.mustShed_zero _ (by rw [State.derive_tiers, alters.tiers, depth]) i,
      .inl (by rw [State.derive_seq, alters.seq]; exact settled)⟩
    rw [State.derive_get, Chan.derive_mark, alters.here]; exact unmarked
  have on : v.derive.resolve.chans[i] = s.chans[i].endRestLock.turnOn (s.now + dt) := by
    rw [leaves.resolve, State.derive_get, Chan.derive_of_law _ _ (Chan.derive_out _ _).symm, alters.here,
      Chan.derive_turnOn _ off free, alters.now]
  rw [on]
  exact ⟨rfl, rfl⟩

/-! ### The steps (R101, R102, R105) -/

theorem State.spacingPassed_of {s : State} {n at' : Nat} (last : s.seq.lastStep = some at')
    (passed : at' + n * (100 * Config.unitsPerMs) ≤ s.now) : s.spacingPassed n = true := by
  simp only [State.spacingPassed, last]; exact decide_eq_true passed

/-- A step that is taken now leaves no spacing passed (R101). -/
theorem State.spacingPassed_now {s : State} {n : Nat} (last : s.seq.lastStep = some s.now) (some' : 1 ≤ n) :
    s.spacingPassed n = false := by
  simp only [State.spacingPassed, last]
  have span : 1 ≤ n * (100 * Config.unitsPerMs) := Nat.mul_pos some' (by decide)
  exact decide_eq_false (by omega)

/-- A reconsideration that has taken a step leaves no spacing passed. -/
theorem State.spaced_of_step {s : State} (depth : s.tiers.depth ≠ 5) (shed : 1 ≤ s.seq.cfg.shedSpacing)
    (restore : 1 ≤ s.seq.cfg.restoreSpacing) (last : s.seq.lastStep = some s.now) (st : SeqState) (settled : st ≠ .settle) :
    State.Spaced { s with seq := { s.seq with st := st } } where
  depth := depth
  settled := settled
  shed := State.spacingPassed_now last shed
  restore := State.spacingPassed_now last restore

/-- The shed step takes the lowest candidate whose run lock has passed (R102). -/
theorem State.shedChoice_eq {s : State} {i : Ch} (order : s.OrderLaw) (low : 1 ≤ s.tiers.depth) (high : s.tiers.depth ≤ 4)
    (passed : s.spacingPassed s.seq.cfg.shedSpacing = true) (candidate : s.shedCandidate i = true)
    (free : s.chans[i].runLock = none)
    (first : ∀ j : Ch, s.seq.order.idxOf i < s.seq.order.idxOf j → s.shedCandidate j = true → s.chans[j].runLock ≠ none) :
    s.shedChoice = some i := by
  have choice : s.shedChoice = s.seq.order.reverse.find? fun i => s.shedCandidate i && s.chans[i].runLock.isNone :=
    if_pos ⟨low, high, passed⟩
  rw [choice]
  refine find?_last order.nodup (order.mem i) (by rw [candidate, free]; rfl) fun j _ lower => ?_
  cases may : s.shedCandidate j with
  | false => rfl
  | true => rw [Option.isNone_eq_false_iff.2 (Option.isSome_iff_ne_none.2 (first j lower may))]; rfl

/-- The restore step takes the highest candidate whose rest lock has passed (R105). -/
theorem State.restoreChoice_eq {s : State} {i : Ch} (order : s.OrderLaw) (none' : ∀ j : Ch, s.shedCandidate j = false)
    (quiet : s.tiers.anyPending = false) (sound : s.scanner.senseFault = false) (settled : s.seq.st ≠ .settle)
    (passed : s.spacingPassed s.seq.cfg.restoreSpacing = true) (candidate : s.restoreCandidate i = true)
    (free : s.chans[i].restLock = none)
    (first : ∀ j : Ch, s.seq.order.idxOf j < s.seq.order.idxOf i → s.restoreCandidate j = true → s.chans[j].restLock ≠ none) :
    s.restoreChoice = some i := by
  have choice : s.restoreChoice = s.seq.order.find? fun i => s.restoreCandidate i && s.chans[i].restLock.isNone := by
    refine if_pos ?_
    simp [none', quiet, sound, passed, State.settling, settled]
  rw [choice]
  refine find?_first (order.mem i) (by rw [candidate, free]; rfl) fun j higher => ?_
  cases may : s.restoreCandidate j with
  | false => rfl
  | true => rw [Option.isNone_eq_false_iff.2 (Option.isSome_iff_ne_none.2 (first j higher may))]; rfl

/-- What a reconsideration that takes a step brings: the step, and each output derived (R102, R105, R117). -/
theorem State.resolve_step {s u : State} (step : s.takeStep = u) (depth : s.tiers.depth ≠ 5) (settled : s.seq.st ≠ .settle)
    (shed : 1 ≤ u.seq.cfg.shedSpacing) (restore : 1 ≤ u.seq.cfg.restoreSpacing) (last : u.seq.lastStep = some u.now)
    (tiers : u.tiers.depth ≠ 5) :
    (∀ i : Ch, s.resolve.chans[i] = u.chans[i].derive u.now) ∧ s.resolve.seq.lastStep = some u.now := by
  have e : s.reconsider = { u with seq := { u.seq with st := u.seqState false } } := by
    rw [State.reconsider_eq depth settled, step]
  have spaced := State.spaced_of_step tiers shed restore last (u.seqState false) u.seqState_st
  rw [← e] at spaced
  obtain ⟨chans, lastStep⟩ := spaced.settleOutputs outputRounds
  refine ⟨fun i => (chans i).trans (by rw [e]), lastStep.trans (by rw [e]; exact last)⟩

/-! ### SETTLE_TIME_END (R113) -/

theorem State.markSettle_seqSt (s : State) : s.markSettle.seq.st = s.seq.st := by
  unfold State.markSettle; split
  · rw [State.markEach_seq]
  · rfl

/-- SETTLE stays while a record is PENDING (R113). -/
theorem State.reconsider_settle {s : State} (settle : s.seq.st = .settle) (pending : s.tiers.anyPending = true) :
    s.reconsider.seq.st = .settle := by
  have moves := s.massShed_moves.trans (State.markSettle_moves _)
  have stays : s.massShed.markSettle.settling = true := by
    simp [State.settling, State.markSettle_seqSt, State.massShed_seqSt, settle, moves.tiers, pending]
  simp only [State.reconsider, stays, State.seqState, if_true]

theorem State.settleOutputs_settle {s : State} (settle : s.seq.st = .settle) (pending : s.tiers.anyPending = true) (n : Nat) :
    (s.settleOutputs n).seq.st = .settle := by
  induction n generalizing s with
  | zero => rw [State.settleOutputs, State.derive_seq, settle]
  | succ n ih =>
    unfold State.settleOutputs; split
    · exact settle
    · have settle' : s.derive.seq.st = .settle := by rw [State.derive_seq, settle]
      have pending' : s.derive.tiers.anyPending = true := by rw [State.derive_tiers, pending]
      exact ih (State.reconsider_settle settle' pending') (by rw [(State.reconsider_moves _).tiers]; exact pending')

/-- SETTLE ends at the first reconsideration after its time at which no record is PENDING (R113). -/
theorem State.reconsider_leaves {s : State} (passed : s.settlePassed = true) (quiet : s.tiers.anyPending = false) :
    s.reconsider.seq.st ≠ .settle := by
  have moves := s.massShed_moves.trans (State.markSettle_moves _)
  have over' : s.massShed.markSettle.settlePassed = true := by
    simpa only [State.settlePassed, moves.settleStart, moves.seqCfg, moves.now] using passed
  have ended : s.massShed.markSettle.settling = false := by
    simp [State.settling, over', moves.tiers, quiet]
  simp only [State.reconsider, ended]
  exact State.seqState_st _

theorem State.resolve_settle_iff {s : State} (settle : s.seq.st = .settle) (passed : s.settlePassed = true) :
    s.resolve.seq.st = .settle ↔ s.tiers.anyPending = true := by
  cases pending : s.tiers.anyPending with
  | true =>
    exact iff_of_true (State.settleOutputs_settle (State.reconsider_settle settle pending)
      (by rw [s.reconsider_moves.tiers]; exact pending) _) rfl
  | false => exact iff_of_false (State.settleOutputs_st _ _ (State.reconsider_leaves passed pending)) Bool.false_ne_true

theorem TierMonitor.anyPending_iff (t : TierMonitor) : t.anyPending = true ↔ ∃ k : Fin 5, t.recs[k].st = .pending := by
  simp [TierMonitor.anyPending, Fin.exists_iff, Vector.any_eq_true]

/-! ### What a step brings to its channel -/

theorem State.takeStep_shed {s : State} {i : Ch} (h : s.shedChoice = some i) : s.takeStep = s.shedStep i := by
  simp only [State.takeStep, h]

theorem State.takeStep_restore {s : State} {i : Ch} (none' : ∀ j : Ch, s.shedCandidate j = false)
    (h : s.restoreChoice = some i) : s.takeStep = s.restoreStep i := by
  have noShed : s.shedChoice = none := by
    unfold State.shedChoice; split
    · exact List.find?_eq_none.2 fun j _ => by rw [none' j]; exact Bool.false_ne_true
    · rfl
  simp only [State.takeStep, noShed, h]

/-- A shed candidate that is marked goes off with the cause of its mark (R71, R78, R102). -/
theorem Chan.derive_marked {c : Chan} (now : Nat) (m : Mark) (fitted : c.cfg.fitted = true)
    (unforced : c.force = .none) :
    let d := Chan.derive now { c with mark := some m }
    d.mark = some m ∧ d.out = false ∧ (c.out = true → d.lastOff = ⟨m.cause, m.detail⟩) := by
  have unwanted : Chan.wanted { c with mark := some m } = false := by simp [Chan.wanted, unforced]
  refine ⟨by rw [Chan.derive_mark], Chan.derive_out_unwanted _ unwanted, fun lit => ?_⟩
  rw [Chan.derive_turnOff _ (c := { c with mark := some m }) lit unwanted, Chan.turnOff_lastOff]
  simp [Chan.offCause, fitted, unforced]

/-- A restore candidate that loses its mark, with its rest lock passed, comes on unless its protection holds it (R71, R105). -/
theorem Chan.derive_unmarked {c : Chan} (now : Nat) (lawful : c.out = c.law) (marked : c.mark.isSome = true)
    (fitted : c.cfg.fitted = true) (demand : c.demand = true) (unforced : c.force = .none) (free : c.restLock = none) :
    let d := Chan.derive now { c with mark := none }
    d.mark = none ∧ d.out = decide (c.prot = .normal) := by
  have off : c.out = false := by
    rw [lawful]; exact Chan.law_of_unwanted (by simp [Chan.wanted, unforced, ← Option.not_isSome, marked])
  refine ⟨by rw [Chan.derive_mark], ?_⟩
  rw [Chan.derive_out_of_off _ { c with mark := none } off]
  simp [Chan.law, fitted, demand, unforced, free]

/-- The part after the time has passed has what the spacing ends speak of (R101). -/
theorem State.elapse_moves_rest {s t : State} {dt : Nat} (m : (s.elapse dt).Moves t) :
    s.Spares t ∧ t.holds = s.holds ∧ t.link = s.link ∧ ∀ j : Ch, s.chans[j].Keeps t.chans[j] :=
  ⟨(s.elapse_spares dt).trans m.spares, m.holds, m.link, fun j => (m.chans j).keeps⟩

/-- The end of the shed spacing brings the shed step on the lowest candidate whose run lock has passed (R101, R102). -/
theorem shedSpacingEnd_sheds (dt at' : Nat) (i : Ch) (s : State) (awake : s.inReset = none) (law : s.OutputLaw)
    (order : s.OrderLaw) (shedSpan : 1 ≤ s.seq.cfg.shedSpacing) (restoreSpan : 1 ≤ s.seq.cfg.restoreSpacing)
    (last : s.seq.lastStep = some at') (passed : at' + s.seq.cfg.shedSpacing * (100 * Config.unitsPerMs) ≤ s.now + dt)
    (settled : s.seq.st ≠ .settle) (low : 1 ≤ s.tiers.depth) (high : s.tiers.depth ≤ 4)
    (candidate : s.shedCandidate i = true) (free : s.chans[i].runLock = none)
    (first : ∀ j : Ch, s.seq.order.idxOf i < s.seq.order.idxOf j → s.shedCandidate j = true → s.chans[j].runLock ≠ none) :
    ∃ t, exec (.shedSpacingEnd dt) s = .next t ∧
      t.chans[i].mark = some ⟨.shed s.tiers.depth, s.confirming⟩ ∧ t.chans[i].out = false ∧
      (s.chans[i].out = true → t.chans[i].lastOff = ⟨.shed s.tiers.depth, s.confirming⟩) ∧
      s.chans[i].Keeps t.chans[i] ∧ (∀ j : Ch, j ≠ i → t.chans[j] = s.chans[j]) ∧
      t.seq.lastStep = some (s.now + dt) ∧ s.Spares t ∧ t.holds = s.holds ∧ t.link = s.link := by
  have reaches : (s.elapse dt).spacingPassed s.seq.cfg.shedSpacing = true := State.spacingPassed_of last passed
  have runs : exec (.shedSpacingEnd dt) s = .next (s.elapse dt).resolve :=
    (State.event_eq s dt _ awake).trans (congrArg _ (if_pos ⟨by rw [State.elapse_seq, last]; rfl, reaches⟩))
  have choice : (s.elapse dt).shedChoice = some i := State.shedChoice_eq order low high reaches candidate free first
  have below : s.tiers.depth ≠ 5 := by omega
  have mark : (s.elapse dt).shedMark = ⟨.shed s.tiers.depth, s.confirming⟩ := if_neg below
  obtain ⟨chans, lastStep⟩ := State.resolve_step (State.takeStep_shed choice) below settled
    (by rw [State.shedStep_seq]; exact shedSpan) (by rw [State.shedStep_seq]; exact restoreSpan)
    (by rw [State.shedStep_seq, State.shedStep_now]) (by rw [State.shedStep_tiers]; exact below)
  obtain ⟨spares, holds, link, keeps⟩ := State.elapse_moves_rest (s.elapse dt).resolve_moves
  generalize (s.elapse dt).resolve = t at runs chans lastStep spares holds link keeps
  simp only [State.shedStep_get, State.shedStep_now, State.elapse_chans, State.elapse_clock, mark] at chans lastStep
  have lawful (j : Ch) := (State.lawful_iff s).1 ((State.outputLaw_awake awake).1 law) j
  obtain ⟨fitted, -, unforced, -⟩ := State.sheddable_of_mustShed (Bool.and_eq_true_iff.1 candidate).1
  have here := chans i
  rw [if_pos rfl] at here
  obtain ⟨marked, off, cause⟩ := Chan.derive_marked (s.now + dt) ⟨.shed s.tiers.depth, s.confirming⟩ fitted unforced
  rw [← here] at marked off cause
  refine ⟨t, runs, marked, off, cause, keeps i, fun j apart => ?_, lastStep, spares, holds, link⟩
  rw [chans j, if_neg apart, Chan.derive_of_law _ _ (lawful j).symm]

/-- The end of the restore spacing brings the restore step on the highest candidate whose rest lock has passed (R101, R105). -/
theorem restoreSpacingEnd_restores (dt at' : Nat) (i : Ch) (s : State) (awake : s.inReset = none) (law : s.OutputLaw)
    (order : s.OrderLaw) (shedSpan : 1 ≤ s.seq.cfg.shedSpacing) (restoreSpan : 1 ≤ s.seq.cfg.restoreSpacing)
    (last : s.seq.lastStep = some at') (passed : at' + s.seq.cfg.restoreSpacing * (100 * Config.unitsPerMs) ≤ s.now + dt)
    (settled : s.seq.st ≠ .settle) (high : s.tiers.depth ≤ 4) (none' : ∀ j : Ch, s.shedCandidate j = false)
    (quiet : ¬∃ k : Fin 5, s.tiers.recs[k].st = .pending) (sound : s.scanner.senseFault = false)
    (candidate : s.restoreCandidate i = true) (free : s.chans[i].restLock = none)
    (first : ∀ j : Ch, s.seq.order.idxOf j < s.seq.order.idxOf i → s.restoreCandidate j = true → s.chans[j].restLock ≠ none) :
    ∃ t, exec (.restoreSpacingEnd dt) s = .next t ∧
      t.chans[i].mark = none ∧ t.chans[i].out = decide (s.chans[i].prot = .normal) ∧
      s.chans[i].Keeps t.chans[i] ∧ (∀ j : Ch, j ≠ i → t.chans[j] = s.chans[j]) ∧
      t.seq.lastStep = some (s.now + dt) ∧ s.Spares t ∧ t.holds = s.holds ∧ t.link = s.link := by
  have reaches : (s.elapse dt).spacingPassed s.seq.cfg.restoreSpacing = true := State.spacingPassed_of last passed
  have runs : exec (.restoreSpacingEnd dt) s = .next (s.elapse dt).resolve :=
    (State.event_eq s dt _ awake).trans (congrArg _ (if_pos ⟨by rw [State.elapse_seq, last]; rfl, reaches⟩))
  have idle : s.tiers.anyPending = false := Bool.eq_false_of_not_eq_true fun h => quiet ((TierMonitor.anyPending_iff _).1 h)
  have choice : (s.elapse dt).restoreChoice = some i :=
    State.restoreChoice_eq order none' idle sound settled reaches candidate free first
  have below : s.tiers.depth ≠ 5 := by omega
  obtain ⟨chans, lastStep⟩ := State.resolve_step (State.takeStep_restore (s := s.elapse dt) none' choice) below settled
    (by rw [State.restoreStep_seq]; exact shedSpan) (by rw [State.restoreStep_seq]; exact restoreSpan)
    (by rw [State.restoreStep_seq, State.restoreStep_now]) (by rw [State.restoreStep_tiers]; exact below)
  obtain ⟨spares, holds, link, keeps⟩ := State.elapse_moves_rest (s.elapse dt).resolve_moves
  generalize (s.elapse dt).resolve = t at runs chans lastStep spares holds link keeps
  simp only [State.restoreStep_get, State.restoreStep_now, State.elapse_chans, State.elapse_clock] at chans lastStep
  have lawful (j : Ch) := (State.lawful_iff s).1 ((State.outputLaw_awake awake).1 law) j
  simp only [State.restoreCandidate, Bool.and_eq_true, decide_eq_true_eq] at candidate
  obtain ⟨⟨⟨⟨held, fitted⟩, demand⟩, unforced⟩, -⟩ := candidate
  have here := chans i
  rw [if_pos rfl] at here
  obtain ⟨unmarked, out⟩ := Chan.derive_unmarked (s.now + dt) (lawful i) held fitted demand unforced free
  rw [← here] at unmarked out
  refine ⟨t, runs, unmarked, out, keeps i, fun j apart => ?_, lastStep, spares, holds, link⟩
  rw [chans j, if_neg apart, Chan.derive_of_law _ _ (lawful j).symm]

/-- The end of the settle time ends SETTLE exactly when no record is PENDING (R113). -/
theorem settleTimeEnd_leaves (dt from' : Nat) (s : State) (awake : s.inReset = none) (settle : s.seq.st = .settle)
    (start : s.seq.settleStart = some from') (passed : from' + s.seq.cfg.settleTime * (100 * Config.unitsPerMs) ≤ s.now + dt) :
    ∃ t, exec (.settleTimeEnd dt) s = .next t ∧ (t.seq.st = .settle ↔ ∃ k : Fin 5, s.tiers.recs[k].st = .pending) ∧
      (∀ j : Ch, s.chans[j].Keeps t.chans[j]) ∧ s.Spares t ∧ t.holds = s.holds ∧ t.link = s.link := by
  have reaches : (s.elapse dt).settlePassed = true := by
    simp only [State.settlePassed, State.elapse_seq, start]; exact decide_eq_true passed
  have runs : exec (.settleTimeEnd dt) s = .next (s.elapse dt).resolve :=
    (State.event_eq s dt _ awake).trans (congrArg _ (if_pos ⟨settle, reaches⟩))
  obtain ⟨spares, holds, link, keeps⟩ := State.elapse_moves_rest (s.elapse dt).resolve_moves
  have ends := State.resolve_settle_iff (s := s.elapse dt) settle reaches
  exact ⟨_, runs, ends.trans (TierMonitor.anyPending_iff _), keeps, spares, holds, link⟩

/-- Settles O58, one lemma to each end: of a lock (`runLockExpiry_steady`, `restLockExpiry_restores`), of a spacing
(`shedSpacingEnd_sheds`, `restoreSpacingEnd_restores`) and of the settle time (`settleTimeEnd_leaves`). -/
theorem locksSpacingsAndSettleTimeEnd : Obligations.LocksSpacingsAndSettleTimeEnd := by
  intro dt e i s awake law order shedSpan restoreSpan now passed below pending
  refine ⟨fun lock due settled depth unmarked => runLockExpiry_steady dt e i s awake law lock due settled depth unmarked,
    fun lock due settled depth unmarked => restLockExpiry_restores dt e i s awake law lock due settled depth unmarked,
    ?_, ?_, fun from' settle start over' => settleTimeEnd_leaves dt from' s awake settle start over'⟩
  · rintro ⟨at', last, over'⟩ settled low high candidate free first
    exact shedSpacingEnd_sheds dt at' i s awake law order shedSpan restoreSpan last over' settled low high candidate free
      fun j lower => first j (decide_eq_true lower)
  · rintro ⟨at', last, over'⟩ settled high none' quiet sound candidate free first
    exact restoreSpacingEnd_restores dt at' i s awake law order shedSpan restoreSpan last over' settled high none' quiet sound
      candidate free fun j higher => first j (decide_eq_true higher)

end Sys2Proof.Machine
end

section
/-! PROOFS. The scan that trips a channel. -/

namespace Sys2Proof.Machine

/-! ### One channel that trips (R80, R81, R88) -/

theorem readChannel_eq (z : Int) : readChannel z = (min 4095 z).toNat := by
  simp only [readChannel, clampToNat, clampInt]; omega

/-- The channel has tripped and is off: its protection alone holds it. -/
def Chan.Down (c : Chan) : Prop := c.out = false ∧ c.prot ≠ .normal

theorem Chan.trip_off (now n : Nat) (c : Chan) : (c.trip now n).Down ∧ (c.trip now n).overCount = 0 ∧
    (c.trip now n).lastOff = ⟨.trip, n⟩ ∧ (c.trip now n).demand = c.demand ∧ (c.trip now n).force = c.force ∧
    (c.trip now n).usage = c.usage := by
  simp only [Chan.trip]
  split <;> exact ⟨⟨rfl, Protection.noConfusion⟩, rfl, rfl, rfl, rfl, rfl⟩

/-- While retries are left a trip waits for the next one (R81). -/
theorem Chan.trip_waits {now n : Nat} {c : Chan} (left : c.retries < c.cfg.retryCount) :
    (c.trip now n).prot = .tripWait ∧ (c.trip now n).retries = c.retries + 1 ∧
      (c.trip now n).retryEnd = some (now + min 600 (c.cfg.retryDelay * 2 ^ c.retries) * Config.unitsPerSecond) := by
  rw [Chan.trip, if_pos left]; exact ⟨rfl, rfl, rfl⟩

/-- With none left it latches (R81). -/
theorem Chan.trip_latches {now n : Nat} {c : Chan} (spent : c.cfg.retryCount ≤ c.retries) :
    (c.trip now n).prot = .latched ∧ (c.trip now n).retries = c.retries ∧ (c.trip now n).retryEnd = c.retryEnd := by
  rw [Chan.trip, if_neg (Nat.not_lt.2 spent)]; exact ⟨rfl, rfl, rfl⟩

/-- What a completion finds of a channel that trips: it is judged, above its limit, and reaches its trip count (R80). -/
structure Chan.Overloaded (c : Chan) (n : Nat) : Prop where
  normal : c.prot = .normal
  lit : c.out = true
  before : c.onBefore = true
  past : c.blankEnd = none
  limited : c.cfg.limit ≠ 0
  above : c.cfg.limit < n
  reaches : c.cfg.tripCount ≤ c.overCount + 1

theorem Chan.use_fields (n k : Nat) (c : Chan) : (c.use n k).cfg = c.cfg ∧ (c.use n k).demand = c.demand ∧
    (c.use n k).force = c.force ∧ (c.use n k).retries = c.retries ∧ (c.use n k).retryEnd = c.retryEnd := by
  rw [Chan.use_eq]; exact ⟨rfl, rfl, rfl, rfl, rfl⟩

theorem Chan.Overloaded.use {c : Chan} {n : Nat} (h : c.Overloaded n) (k : Nat) : (c.use n k).Overloaded n := by
  rw [Chan.use_eq]; exact ⟨h.normal, h.lit, h.before, h.past, h.limited, h.above, h.reaches⟩

/-- The tripping scan adds to the usage (R88). -/
theorem Chan.Overloaded.usage {c : Chan} {n : Nat} (h : c.Overloaded n) (k : Nat) :
    (c.use n k).usage = min Config.totalMax (c.usage + n * k) := by
  simp [Chan.use, Chan.onThroughout, h.lit, h.before]

/-- An overloaded channel trips (R80, R81). -/
theorem Chan.Overloaded.protect {c : Chan} {n : Nat} (h : c.Overloaded n) (now : Nat) :
    (c.protect now n).tripped = true ∧ (c.protect now n).chan = c.trip now n := by
  have judged : c.judged now = true := by
    simp [Chan.judged, Chan.onThroughout, Chan.blankingPassed, h.normal, h.lit, h.before, h.past, h.limited]
  have count : c.overCountAfter now n = c.overCount + 1 := by
    rw [Chan.overCountAfter, if_neg h.limited, if_pos judged, if_pos h.above]
  have trips : (c.judged now && decide (c.cfg.limit < n)) = true ∧ c.cfg.tripCount ≤ c.overCountAfter now n :=
    ⟨by rw [judged, decide_eq_true h.above]; rfl, by rw [count]; exact h.reaches⟩
  simp only [Chan.protect, if_pos trips, and_self]

/-- So it does at a completion, after the current has been added to its usage (R80, R81, R88). -/
theorem Chan.treat_trips {c : Chan} {n : Nat} (h : c.Overloaded n) (now k : Nat) :
    (c.treat now n k).tripped = true ∧ (c.treat now n k).chan = (c.use n k).trip now n := by
  obtain ⟨tripped, chan⟩ := (h.use k).protect now
  have off : ((c.use n k).trip now n).checkOpen now n = ((c.use n k).trip now n, false) := by
    simp only [Chan.checkOpen, (Chan.trip_off now n (c.use n k)).1.1, Bool.not_false, if_true]
  simp only [Chan.treat, tripped, chan, off, and_self]

/-! ### What the rest of the completion makes of a channel that is down -/

/-- Only the shed mark and the scan's flag may change. -/
def Chan.Rests (c d : Chan) : Prop := d = { c with mark := d.mark, onBefore := d.onBefore }

theorem Chan.Rests.refl (c : Chan) : c.Rests c := rfl

theorem Chan.Rests.trans {c d e : Chan} (h : c.Rests d) (k : d.Rests e) : c.Rests e := by
  rw [Chan.Rests, k, h]

theorem Chan.Rests.down {c d : Chan} (h : c.Rests d) (down : c.Down) : d.Down := by
  rw [h]; exact down

theorem Chan.Rests.fields {c d : Chan} (h : c.Rests d) : d.out = c.out ∧ d.overCount = c.overCount ∧ d.lastOff = c.lastOff ∧
    d.cfg = c.cfg ∧ d.demand = c.demand ∧ d.force = c.force ∧ d.usage = c.usage ∧ d.prot = c.prot ∧ d.retries = c.retries ∧
    d.retryEnd = c.retryEnd := by
  rw [h]; exact ⟨rfl, rfl, rfl, rfl, rfl, rfl, rfl, rfl, rfl, rfl⟩

theorem Chan.Rests.mark (c : Chan) (m : Option Mark) : c.Rests { c with mark := m } := rfl

/-- The law asks for no channel that is down, so that a derivation leaves it (R71). -/
theorem Chan.derive_down {c : Chan} (now : Nat) (h : c.Down) : c.derive now = c := by
  refine Chan.derive_of_law _ _ ?_
  rw [h.1]; exact Chan.law_of_unwanted (by simp [Chan.wanted, h.2])

theorem State.markEach_rests (s : State) (f : Ch → Option Mark) (i : Ch) : s.chans[i].Rests (s.markEach f).chans[i] := by
  rw [State.markEach_get]; cases f i
  · exact .refl _
  · exact .mark _ _

theorem State.massShed_rests (s : State) (i : Ch) : s.chans[i].Rests s.massShed.chans[i] := by
  rcases s.massShed_get i with e | e
  · rw [e]; exact .refl _
  · rw [e]; exact s.markEach_rests _ i

theorem State.markSettle_rests (s : State) (i : Ch) : s.chans[i].Rests s.markSettle.chans[i] := by
  unfold State.markSettle; split
  · exact s.markEach_rests _ i
  · exact .refl _

theorem State.takeStep_rests (s : State) (i : Ch) : s.chans[i].Rests s.takeStep.chans[i] := by
  unfold State.takeStep; split
  · rw [State.shedStep_get]; split
    · exact .mark _ _
    · exact .refl _
  · split
    · rw [State.restoreStep_get]; split
      · exact .mark _ _
      · exact .refl _
    · exact .refl _

/-- A reconsideration changes nothing but marks (R117). -/
theorem State.reconsider_rests (s : State) (i : Ch) : s.chans[i].Rests s.reconsider.chans[i] :=
  ((s.massShed_rests i).trans (State.markSettle_rests _ i)).trans (State.takeStep_rests _ i)

theorem State.settleOutputs_rests {s : State} {i : Ch} (down : s.chans[i].Down) (n : Nat) :
    s.chans[i].Rests (s.settleOutputs n).chans[i] := by
  induction n generalizing s with
  | zero => rw [State.settleOutputs, State.derive_get, Chan.derive_down _ down]; exact .refl _
  | succ n ih =>
    unfold State.settleOutputs; split
    · exact .refl _
    · have derived : s.derive.chans[i] = s.chans[i] := by rw [State.derive_get, Chan.derive_down _ down]
      have moved := s.derive.reconsider_rests i
      rw [derived] at moved
      exact moved.trans (ih (moved.down down))

theorem State.resolve_rests {s : State} {i : Ch} (down : s.chans[i].Down) : s.chans[i].Rests s.resolve.chans[i] :=
  (s.reconsider_rests i).trans (State.settleOutputs_rests ((s.reconsider_rests i).down down) _)

/-- What a block of a completion leaves of a channel that is down, and of the notices TRIP and LATCH. -/
structure State.LeavesDown (i : Ch) (s t : State) : Prop where
  chan : s.chans[i].Down → s.chans[i].Rests t.chans[i]
  trip : t.notices.latch[3] = s.notices.latch[3]
  latch : t.notices.latch[4] = s.notices.latch[4]

namespace State.LeavesDown

variable {i : Ch} {s t u : State}

theorem of_eq (chans : t.chans = s.chans) (notices : t.notices = s.notices) : s.LeavesDown i t :=
  ⟨fun _ => by rw [chans]; exact .refl _, by rw [notices], by rw [notices]⟩

theorem refl (s : State) : s.LeavesDown i s := of_eq rfl rfl

theorem trans (h : s.LeavesDown i t) (k : t.LeavesDown i u) : s.LeavesDown i u :=
  ⟨fun down => (h.chan down).trans (k.chan ((h.chan down).down down)), k.trip.trans h.trip, k.latch.trans h.latch⟩

theorem ite {p : Prop} [Decidable p] (h : s.LeavesDown i t) (k : s.LeavesDown i u) :
    s.LeavesDown i (if p then t else u) := by
  split
  · exact h
  · exact k

theorem resolve (s : State) : s.LeavesDown i s.resolve :=
  ⟨State.resolve_rests, by rw [s.resolve_moves.notices], by rw [s.resolve_moves.notices]⟩

theorem resolveIf (h : s.LeavesDown i t) (p : Prop) [Decidable p] : s.LeavesDown i (if p then t.resolve else t) :=
  .ite (h.trans (resolve t)) h

theorem report (h : s.LeavesDown i t) (k : EventKind) (l : List Nat) : s.LeavesDown i (t.report k l) :=
  h.trans (of_eq (t.report_chans k l) (t.report_notices k l))

theorem beginScan (s : State) : s.LeavesDown i s.beginScan :=
  ⟨fun _ => by rw [s.beginScan_get]; rfl, by rw [s.beginScan_notices], by rw [s.beginScan_notices]⟩

theorem dozeTest (s : State) : s.LeavesDown i s.dozeTest := .ite (of_eq s.enterDoze_chans s.enterDoze_notices) (refl s)

theorem exitDoze (s : State) : s.LeavesDown i s.exitDoze := by
  simp only [State.exitDoze]; split_ifs
  · refine trans ?_ (beginScan _)
    exact of_eq rfl rfl
  · exact of_eq rfl rfl
  · exact refl s

theorem evaluateTiers (s : State) (r : ScanRecord) : s.LeavesDown i (s.evaluateTiers r).1 := by
  simp only [State.evaluateTiers, State.reportIf]
  refine .report (.report ?_ _ _) _ _
  exact ⟨fun _ => .refl _,
    (Notices.level_other _ .cutoff _ _ 3 (by decide)).1.trans (Notices.edge_latch_other _ .tier _ 3 (by decide)),
    (Notices.level_other _ .cutoff _ _ 4 (by decide)).1.trans (Notices.edge_latch_other _ .tier _ 4 (by decide))⟩

theorem estimated (s : State) (r : ScanRecord) : s.LeavesDown i (s.estimated r).1 := by
  simp only [State.estimated, State.reportIf]
  generalize (if (s.est.complete r).first then { s.seq with settleStart := some s.now } else s.seq) = q
  have reported := ((of_eq (i := i) (s := s) (t := { s with est := (s.est.complete r).est, seq := q }) rfl rfl).report
    .restCorrection (if (s.est.complete r).restEvent then [0] else [])).report
      .fullResync (if (s.est.complete r).fullEvent then [0] else [])
  split
  · exact (reported.trans (evaluateTiers _ r)).resolveIf _
  · exact reported

theorem concluded (s : State) (told testFirst : Bool) : s.LeavesDown i (s.concluded told testFirst) := by
  have left : s.LeavesDown i (if told then s.exitDoze else s) := .ite (exitDoze s) (refl s)
  simp only [State.concluded]
  generalize (if told then s.exitDoze else s) = t at left ⊢
  have tested : s.LeavesDown i (if testFirst then t else t.dozeTest) := .ite left (left.trans (dozeTest t))
  generalize (if testFirst then t else t.dozeTest) = u at tested ⊢
  exact .ite (tested.trans (beginScan u)) tested

end State.LeavesDown

/-! ### The completion that has the Channel Controller take the record first (R14, R119) -/

/-- What the blocks behind the Channel Controller make of it. -/
theorem State.consume_controlled (s : State) (r : ScanRecord) (changed test : Bool) (i : Ch) :
    ((if test then s.dozeTest else s).controlled r).1.LeavesDown i (s.consume r changed ⟨false, true, test⟩) := by
  simp only [State.consume, if_true, if_false, Bool.false_eq_true]
  generalize (if test then s.dozeTest else s).controlled r = controlled
  have behind : controlled.1.LeavesDown i ((controlled.1.estimated r).1.onFault changed) :=
    (State.LeavesDown.estimated controlled.1 r).resolveIf _
  exact behind.trans (State.LeavesDown.concluded _ (controlled.2 || (controlled.1.estimated r).2) test)

/-- The notice LATCH stands while a channel is LATCHED outside a reset (R162). -/
theorem State.LevelLaw.latch {s : State} (h : s.LevelLaw) (awake : s.inReset = none) (some' : s.latchCondition = true) :
    s.notices.latch[4] = true := by
  have bit := congrArg (fun n : BitVec 9 => n[4]) (h.latched awake)
  simpa [State.conditions, some', NoticeCode.bit] using bit

theorem Notices.edge_trip (n : Notices) : (n.edge .trip true).latch[3] = true := by
  simp [Notices.edge, NoticeCode.bit]

/-- Its onset sets it (R161). -/
theorem Notices.level_latch {n : Notices} {before after : Bool} (after' : after = true) (held : before = true → n.latch[4] = true) :
    (n.level .latch before after).latch[4] = true := by
  cases before with
  | true => rw [after', Notices.level_same]; exact held rfl
  | false => rw [after']; simp [Notices.level, NoticeCode.bit]

/-- A trip found by the Channel Controller: the channel is down, with the notices TRIP and LATCH (R80, R81, R84). -/
theorem State.controlled_trips {s : State} {r : ScanRecord} {i : Ch} (over' : s.chans[i].Overloaded r.currents[i])
    (held : s.latchCondition = true → s.notices.latch[4] = true) :
    (Chan.trip s.now r.currents[i] (s.chans[i].use r.currents[i] r.power.factor)).Rests (s.controlled r).1.chans[i] ∧
    (s.controlled r).1.notices.latch[3] = true ∧
    (s.chans[i].cfg.retryCount ≤ s.chans[i].retries → (s.controlled r).1.notices.latch[4] = true) := by
  obtain ⟨u, -, chans, notices, e⟩ := s.controlled_treats r
  obtain ⟨tripped, chan⟩ := Chan.treat_trips over' s.now r.power.factor
  have any' : (channels.any fun i => (s.chans[i].treat s.now r.currents[i] r.power.factor).tripped) = true :=
    List.any_eq_true.2 ⟨i, List.mem_finRange i, tripped⟩
  have own := (chans i).trans chan
  have left : u.LeavesDown i (s.controlled r).1 := by rw [e, if_pos any']; exact .resolve u
  rw [any'] at notices
  refine ⟨?_, ?_, fun spent => ?_⟩
  · rw [← own]; exact left.chan (by rw [own]; exact (Chan.trip_off _ _ _).1)
  · rw [left.trip, notices]
    exact (Notices.level_other _ .latch _ _ 3 (by decide)).1.trans s.notices.edge_trip
  · rw [left.latch, notices]
    refine Notices.level_latch ?_ fun was => ?_
    · refine List.any_eq_true.2 ⟨i, List.mem_finRange i, decide_eq_true ?_⟩
      obtain ⟨cfg, -, -, retries, -⟩ := s.chans[i].use_fields r.currents[i] r.power.factor
      rw [own]; exact (Chan.trip_latches (by rw [cfg, retries]; exact spent)).1
    · exact (Notices.edge_latch_other _ .trip _ 4 (by decide)).trans (held was)

/-- The scanner's part leaves the channels, and every notice but SENSE (R12, R14). -/
theorem State.scanned_notices (s : State) (f : Scan) (smp : Samples) :
    (s.scanned f smp).now = s.now ∧ (s.scanned f smp).notices.latch[4] = s.notices.latch[4] := by
  simp only [State.scanned, State.reportIf_now, State.reportIf_notices]
  exact ⟨trivial, (Notices.level_other _ .sense _ _ 4 (by decide)).1⟩

theorem State.dozeTest_now (s : State) : s.dozeTest.now = s.now := s.dozeTest_sparesEstimate.now

/-- What the blocks before the Channel Controller leave as it stood. -/
theorem State.scanned_tested (s : State) (f : Scan) (smp : Samples) (test : Bool) :
    let t := if test then (s.scanned f smp).dozeTest else s.scanned f smp
    t.chans = s.chans ∧ t.now = s.now ∧ t.notices.latch[4] = s.notices.latch[4] := by
  have loads := s.scanned_keepsLoads f smp
  obtain ⟨now, latch⟩ := s.scanned_notices f smp
  cases test with
  | false => exact ⟨loads.chans, now, latch⟩
  | true =>
    have tested := State.LeavesDown.dozeTest (i := 0) (s.scanned f smp)
    exact ⟨(State.dozeTest_keepsLoads _).chans.trans loads.chans, (State.dozeTest_now _).trans now, tested.latch.trans latch⟩

/-- The record has the power state of the scan, and the current of every channel of its plan (R2, R9). -/
theorem Scanner.complete_record (sc : Scanner) (f : Scan) (smp : Samples) (i : Ch) (planned : f.plan[i] = true) :
    (sc.complete f smp).2.currents[i] = (min 4095 smp.cs[i]).toNat ∧ (sc.complete f smp).2.power = f.power := by
  refine ⟨?_, rfl⟩
  rw [← readChannel_eq]
  simp only [Scanner.complete, Fin.getElem_fin, Vector.getElem_ofFn]
  exact if_pos planned

/-- The completion trips an overloaded channel: the Channel Controller finds it, and the blocks behind it leave it down. -/
theorem scanComplete_trips (dt : Nat) (smp : Samples) (test : Bool) (s : State) (f : Scan) (i : Ch) (awake : s.inReset = none)
    (flies : s.scanner.inFlight = some f) (ended : f.ends ≤ s.now + dt) (planned : f.plan[i] = true) (level : s.LevelLaw)
    (over' : s.chans[i].Overloaded (min 4095 smp.cs[i]).toNat) :
    ∃ t, exec (.scanComplete dt smp ⟨false, true, test⟩) s = .next t ∧
      (Chan.trip (s.now + dt) (min 4095 smp.cs[i]).toNat (s.chans[i].use (min 4095 smp.cs[i]).toNat f.power.factor)).Rests
        t.chans[i] ∧
      t.notices.latch[3] = true ∧ (s.chans[i].cfg.retryCount ≤ s.chans[i].retries → t.notices.latch[4] = true) := by
  have runs := exec_scanComplete dt smp ⟨false, true, test⟩ s f awake flies ended
  obtain ⟨read, power⟩ := Scanner.complete_record (s.elapse dt).scanner f smp i planned
  have tested := (s.elapse dt).scanned_tested f smp test
  have after := State.consume_controlled ((s.elapse dt).scanned f smp) ((s.elapse dt).scanner.complete f smp).2
    ((s.elapse dt).scanner.senseFault != ((s.elapse dt).scanner.complete f smp).2.senseFault) test i
  rw [State.completeScan] at runs
  generalize State.consume _ _ _ _ = t at runs after
  generalize (if test then ((s.elapse dt).scanned f smp).dozeTest else (s.elapse dt).scanned f smp) = u at tested after
  generalize ((s.elapse dt).scanner.complete f smp).2 = r at read power after
  obtain ⟨chans, now, latch⟩ := tested
  have own : u.chans[i] = s.chans[i] := by rw [chans]; rfl
  have held : u.latchCondition = true → u.notices.latch[4] = true := fun some' => by
    rw [latch]; exact level.latch awake (by rw [State.latchCondition, chans] at some'; exact some')
  obtain ⟨rests, trip, latched⟩ := State.controlled_trips (r := r) (by rw [own, read]; exact over') held
  rw [own, read, power, now] at rests
  rw [own] at latched
  exact ⟨t, runs, rests.trans (after.chan (rests.down (Chan.trip_off _ _ _).1)), after.trip.trans trip,
    fun spent => after.latch.trans (latched spent)⟩

/-- Settles O55: the completion trips the channel (`scanComplete_trips`), and the rest is what a trip makes of a channel whose usage
has been added to (`Chan.trip_off`, `Chan.trip_waits`, `Chan.trip_latches`). -/
theorem overcurrentTripsAChannel : Obligations.OvercurrentTripsAChannel := by
  intro dt smp test s f i awake flies ended planned level normal lit before past limited above reaches c current
  have over' : c.Overloaded current := ⟨normal, lit, before, past, limited, Int.lt_toNat.2 above, reaches⟩
  obtain ⟨t, runs, rests, trip, latched⟩ := scanComplete_trips dt smp test s f i awake flies ended planned level over'
  change (Chan.trip (s.now + dt) current (c.use current f.power.factor)).Rests t.chans[i] at rests
  obtain ⟨usedCfg, usedDemand, usedForce, usedRetries, usedRetryEnd⟩ := c.use_fields current f.power.factor
  have added := over'.usage f.power.factor
  have factor : f.power.factor = if f.power = .run then 1 else 10 := by cases f.power <;> rfl
  generalize c.use current f.power.factor = d at rests usedCfg usedDemand usedForce usedRetries usedRetryEnd added
  obtain ⟨down, counted, cause, demand, force, usage⟩ := Chan.trip_off (s.now + dt) current d
  obtain ⟨out, overCount, lastOff, cfg, demand', force', usage', prot, retries, retryEnd⟩ := rests.fields
  refine ⟨t, runs, out.trans down.1, overCount.trans counted, lastOff.trans cause,
    cfg.trans ((Chan.trip_cfg _ _ _).trans usedCfg), demand'.trans (demand.trans usedDemand),
    force'.trans (force.trans usedForce), ?_, trip, fun left => ?_, fun spent => ?_⟩
  · rw [usage', usage, added, factor]
  · obtain ⟨waits, next, due⟩ := Chan.trip_waits (now := s.now + dt) (n := current) (c := d)
      (by rw [usedCfg, usedRetries]; exact left)
    rw [usedRetries] at next
    rw [usedCfg, usedRetries] at due
    exact ⟨prot.trans waits, retries.trans next, retryEnd.trans due⟩
  · obtain ⟨latches, kept, timer⟩ := Chan.trip_latches (now := s.now + dt) (n := current) (c := d)
      (by rw [usedCfg, usedRetries]; exact spent)
    exact ⟨prot.trans latches, retries.trans (kept.trans usedRetries), retryEnd.trans (timer.trans usedRetryEnd), latched spent⟩

end Sys2Proof.Machine
end

section
/-! PROOFS. What a command can do, said once: what an answer of the Request Handler can leave of the part, and the operations
that a command is composed of. -/

namespace Sys2Proof.Machine

/-! ### What an answer leaves (R156, R157) -/

/-- All that an answer of the Request Handler can leave of the part: the part as it stands, or one of the changes that the
requests bring, with what the request's checks have found. -/
inductive State.Serves (s : State) : State → Prop where
  | nothing : s.Serves s
  | demandOn (set : Nat) : s.Serves (s.switchOn set)
  | demandOff (set : Nat) : s.Serves (s.switchOff set)
  | reheld (i : Ch) (minutes : Nat) (held : s.held i = true) : s.Serves (s.rehold i minutes)
  | held (i : Ch) (minutes : Nat) (fitted : s.chans[i].cfg.fitted = true) (cls : s.chans[i].cfg.cls = .sheddable)
      (demand : s.chans[i].demand = true) (unheld : s.held i = false) (room : s.holds.length < 4) :
      s.Serves (s.placeNew i minutes)
  | released (i : Ch) : s.Serves (s.release i)
  | forced (i : Ch) (f : Force) (fitted : s.chans[i].cfg.fitted = true) (install : s.power.install.deb = true)
      (running : s.power.st ≠ .doze) : s.Serves (s.setForce i f)
  | tripsCleared (set : Nat) : s.Serves (s.clearTrips set)
  | usageCleared (set : Nat) : s.Serves (s.clearUsage set)
  | acknowledged (names : BitVec 9) : s.Serves { s with notices := s.notices.acknowledge names s.conditions }
  | masked (m : BitVec 9) : s.Serves (s.setMasks m)
  | countersCleared (set : Nat) : s.Serves (s.clearCounters set)
  | linkCountsCleared : s.Serves { s with link := { s.link with counts := LinkCounts.zero } }
  | batteryWritten (w : BatterySettings) : s.Serves { s with est := s.est.setBattery w.clamp }
  | tierWritten (k : Fin 5) (cfg : TierSettings) (fits : cfg.Fits k) : s.Serves (s.writeTier k cfg)
  | loadsWritten (first : Nat) (ws : List LoadSettings) :
      s.Serves (s.setLoads (s.loadsWith first (ws.map LoadSettings.clamp)))
  | curveWritten (start : Nat) (pts : List CurvePoint) :
      s.Serves { s with est := s.est.setCurve (curveWith s.est.curve start (pts.map CurvePoint.clamp)) }
  | sequenceWritten (w : SequenceSettings) : s.Serves (s.setSequence w.clamp)
  | selectorsWritten (first : Nat) (es : List RawEntry) : s.Serves (s.setSelectors first (es.map RawEntry.stored))
  | dozeWritten (w : DozeSettings) : s.Serves { s with power := { s.power with cfg := w.clamp } }
  | moved (i : Ch) (q : Nat) : s.Serves (s.setOrder (moveTo s.seq.order i (clampNat 1 24 q)))
  | saving (idle : s.isSaving = false) (erases : s.store.eraseCount < Config.eraseMax) : s.Serves s.startSave
  | defaults : s.Serves (s.takeProfile factoryProfile).resolve
  | charged (q : Nat) (h : q ≤ s.est.battery.full) : s.Serves { s with est := s.est.setCharge q }
  | dozes (unforced : s.anyForce = false) (idle : s.isSaving = false) : s.Serves s.enterDoze

section
variable (p : List Nat) (s : State)

theorem State.whenIdle_serves (a : Answer) (h : s.isSaving = false → s.Serves a.state) :
    s.Serves (s.whenIdle a).state := by
  unfold State.whenIdle; split
  · exact .nothing
  · rename_i idle; exact h (eq_false_of_ne_true idle)

theorem State.whenInstaller_serves (a : Answer) (h : s.Serves a.state) : s.Serves (s.whenInstaller a).state := by
  unfold State.whenInstaller; split
  · exact s.whenIdle_serves a fun _ => h
  · exact .nothing

/-- A number that names a fitted channel names one whose settings say so (R68). -/
theorem State.fitted_of_fittedChannel {s : State} {k : Nat} {i : Ch} (h : s.fittedChannel k = some i) :
    s.chans[i].cfg.fitted = true := (Option.filter_eq_some_iff.1 h).2

/-! Readings leave the part as it stands. -/

theorem ansIdent_serves : s.Serves (ansIdent p s).state := by unfold ansIdent; split <;> exact .nothing
theorem ansStatus_serves : s.Serves (ansStatus p s).state := by unfold ansStatus; split <;> exact .nothing
theorem ansLoadStatus_serves : s.Serves (ansLoadStatus p s).state := by
  unfold ansLoadStatus; (repeat' split) <;> exact .nothing
theorem ansLinkStatus_serves : s.Serves (ansLinkStatus p s).state := by unfold ansLinkStatus; split <;> exact .nothing
theorem ansCountersRead_serves : s.Serves (ansCountersRead p s).state := by
  unfold ansCountersRead; split <;> exact .nothing
theorem ansMeasure_serves : s.Serves (ansMeasure p s).state := by unfold ansMeasure; split <;> exact .nothing
theorem ansProfileRead_serves : s.Serves (ansProfileRead p s).state := by
  unfold ansProfileRead; (repeat' split) <;> exact .nothing
theorem ansRestart_serves : s.Serves (ansRestart p s).state := by unfold ansRestart; split <;> exact .nothing

/-! Requests to the loads (R76, R77, R85, R89, R122, R125, R129). -/

theorem ansSwitch_serves : s.Serves (ansSwitch p s).state := by
  unfold ansSwitch; split
  · split
    · exact .nothing
    · dsimp only [State.accept_state]; split
      · exact .demandOn _
      · exact .demandOff _
  · exact .nothing
theorem ansHold_serves : s.Serves (ansHold p s).state := by
  unfold ansHold; split
  · split
    · exact .nothing
    · rename_i i named
      dsimp only
      split_ifs with refused held full
      · exact .nothing
      · exact .reheld _ _ held
      · exact .nothing
      · obtain ⟨cls, demand⟩ := not_or.1 refused
        exact .held i _ (State.fitted_of_fittedChannel named) (not_not.1 cls) (Bool.eq_true_of_not_eq_false demand)
          (eq_false_of_ne_true held) (Nat.lt_of_not_le full)
  · exact .nothing
theorem ansReleaseHold_serves : s.Serves (ansReleaseHold p s).state := by
  unfold ansReleaseHold; split
  · split
    · exact .nothing
    · exact .released _
  · exact .nothing
theorem ansForce_serves : s.Serves (ansForce p s).state := by
  unfold ansForce; split
  · split
    · exact .nothing
    · rename_i i named
      split
      · exact .nothing
      · split_ifs with denied dozing
        · exact .nothing
        · exact .nothing
        · exact .forced i _ (State.fitted_of_fittedChannel named) (Bool.eq_true_of_not_eq_false denied) dozing
  · exact .nothing
theorem ansClearTrip_serves : s.Serves (ansClearTrip p s).state := by
  unfold ansClearTrip; split
  · rw [State.accept_state]; exact .tripsCleared _
  · exact .nothing
theorem ansClearUsage_serves : s.Serves (ansClearUsage p s).state := by
  unfold ansClearUsage; split
  · exact .usageCleared _
  · exact .nothing

/-! Requests to the notices, the counters and the link (R155, R163, R164, R168). -/

theorem ansAck_serves : s.Serves (ansAck p s).state := by
  unfold ansAck; split
  · split
    · exact .nothing
    · exact .acknowledged _
  · exact .nothing
theorem ansMask_serves : s.Serves (ansMask p s).state := by
  unfold ansMask; split
  · split
    · exact .nothing
    · exact .masked _
  · exact .nothing
theorem ansCountersClear_serves : s.Serves (ansCountersClear p s).state := by
  unfold ansCountersClear; split
  · exact .countersCleared _
  · exact .nothing
theorem ansClearLinkCounts_serves : s.Serves (ansClearLinkCounts p s).state := by
  unfold ansClearLinkCounts; split
  · exact .linkCountsCleared
  · exact .nothing

/-! Writes to the profile, and its owners' requests (R38, R94, R171, R173, R175). -/

theorem ansWriteBattery_serves : s.Serves (ansWriteBattery p s).state := by
  unfold ansWriteBattery; split
  · exact .nothing
  · exact s.whenInstaller_serves _ (.batteryWritten _)
theorem ansWriteTiers_serves : s.Serves (ansWriteTiers p s).state := by
  unfold ansWriteTiers; split
  · split
    · dsimp only
      split
      · exact .nothing
      · rename_i parsed; exact s.whenInstaller_serves _ (.tierWritten _ _ (parseTier_fits parsed))
    · exact .nothing
  · exact .nothing
theorem ansWriteLoads_serves : s.Serves (ansWriteLoads p s).state := by
  unfold ansWriteLoads; split
  · exact .nothing
  · dsimp only
    split
    · exact .nothing
    · split_ifs
      · exact .nothing
      · exact .nothing
      · split
        · exact .nothing
        · split
          · exact s.whenInstaller_serves _ (.loadsWritten _ _)
          · exact s.whenIdle_serves _ fun _ => .loadsWritten _ _
theorem ansWriteCurve_serves : s.Serves (ansWriteCurve p s).state := by
  unfold ansWriteCurve; split
  · exact .nothing
  · split
    · exact .nothing
    · split
      · exact .nothing
      · exact s.whenInstaller_serves _ (.curveWritten _ _)
theorem ansWriteSequence_serves : s.Serves (ansWriteSequence p s).state := by
  unfold ansWriteSequence; split
  · exact s.whenInstaller_serves _ (.sequenceWritten _)
  · exact .nothing
theorem ansWriteNotice_serves : s.Serves (ansWriteNotice p s).state := by
  unfold ansWriteNotice; split
  · split
    · exact .nothing
    · exact s.whenIdle_serves _ fun _ => .masked _
  · exact .nothing
theorem ansWriteCounters_serves : s.Serves (ansWriteCounters p s).state := by
  unfold ansWriteCounters; split
  · exact .nothing
  · split
    · exact .nothing
    · split_ifs
      exacts [.nothing, .nothing, s.whenIdle_serves _ fun _ => .selectorsWritten _ _]
theorem ansWriteDoze_serves : s.Serves (ansWriteDoze p s).state := by
  unfold ansWriteDoze; split
  · split
    · exact .nothing
    · exact s.whenIdle_serves _ fun _ => .dozeWritten _
  · exact .nothing
theorem ansMove_serves : s.Serves (ansMove p s).state := by
  unfold ansMove; split
  · split
    · exact .nothing
    · exact s.whenIdle_serves _ fun _ => .moved _ _
  · exact .nothing
theorem ansSave_serves : s.Serves (ansSave p s).state := by
  unfold ansSave; split
  · refine s.whenIdle_serves _ fun idle => ?_
    split
    · exact .nothing
    · rename_i unworn; exact .saving idle (Nat.lt_of_not_le unworn)
  · exact .nothing
theorem ansLoadDefaults_serves : s.Serves (ansLoadDefaults p s).state := by
  unfold ansLoadDefaults; split
  · refine s.whenInstaller_serves _ ?_
    rw [State.accept_state]; exact .defaults
  · exact .nothing
theorem State.setCharge_serves (q : Nat) (clamped : Bool) (h : q ≤ s.est.battery.full) :
    s.Serves (s.setCharge q clamped).state := by
  refine s.whenInstaller_serves _ ?_
  split
  · exact .nothing
  · exact .charged q h
theorem ansSetChargeReserve_serves : s.Serves (ansSetChargeReserve p s).state := by
  unfold ansSetChargeReserve; split
  · exact s.setCharge_serves _ _ (charge_le_full _ _ (clampNat_range 0 1000 _ (by decide)).2)
  · exact .nothing
theorem ansSetChargeFull_serves : s.Serves (ansSetChargeFull p s).state := by
  unfold ansSetChargeFull; split
  · exact s.setCharge_serves _ _ le_rfl
  · exact .nothing
theorem ansDoze_serves : s.Serves (ansDoze p s).state := by
  unfold ansDoze; split
  · refine s.whenIdle_serves _ fun idle => ?_
    split
    · exact .nothing
    · rename_i unforced; exact .dozes (eq_false_of_ne_true unforced) idle
  · exact .nothing
theorem ansProfileWrite_serves : s.Serves (ansProfileWrite p s).state := by
  unfold ansProfileWrite; split
  · exact .nothing
  · rename_i fields
    split
    exacts [ansWriteBattery_serves fields s, ansWriteTiers_serves fields s, ansWriteLoads_serves fields s,
      ansWriteCurve_serves fields s, ansWriteSequence_serves fields s, ansWriteNotice_serves fields s,
      ansWriteCounters_serves fields s, ansWriteDoze_serves fields s, .nothing]
theorem ansSetCharge_serves : s.Serves (ansSetCharge p s).state := by
  unfold ansSetCharge; split
  · split
    exacts [ansSetChargeReserve_serves _ s, ansSetChargeFull_serves _ s, .nothing]
  · exact .nothing

/-- Whatever the KIND, the answer leaves the part as it stands or makes one of its changes (R156, R157). -/
theorem answerKind_serves (kind : Nat) : s.Serves (answerKind kind p s).state := by
  unfold answerKind; split
  exacts [ansIdent_serves p s, ansStatus_serves p s, ansLoadStatus_serves p s, ansLinkStatus_serves p s,
    ansCountersRead_serves p s, ansMeasure_serves p s, ansSwitch_serves p s, ansHold_serves p s, ansReleaseHold_serves p s,
    ansForce_serves p s, ansClearTrip_serves p s, ansClearUsage_serves p s, ansAck_serves p s, ansMask_serves p s,
    ansCountersClear_serves p s, ansClearLinkCounts_serves p s, ansProfileRead_serves p s, ansProfileWrite_serves p s,
    ansMove_serves p s, ansSave_serves p s, ansLoadDefaults_serves p s, ansSetCharge_serves p s, ansDoze_serves p s,
    ansRestart_serves p s, .nothing]

end

end Sys2Proof.Machine
end

section
/-! PROOFS. Every command is a chain of a few operations. -/

namespace Sys2Proof.Machine

/-- The operations that commands are composed of, with what their guards have found. -/
inductive State.Acts (s : State) : State → Prop where
  | elapsed (dt : Nat) : s.Acts (s.elapse dt)
  | linked (l : Link) : s.Acts { s with link := l }
  | powered (p : Power) : s.Acts { s with power := p }
  | noticed (n : Notices) : s.Acts { s with notices := n }
  | served (awake : s.inReset = none) {t : State} (h : s.Serves t) : s.Acts t
  | resetBy (src : ResetSource) : s.Acts (s.resetBy src)
  | lapsed : s.Acts s.lapse
  | scanBegun : s.Acts s.beginScan
  | dozeEnded : s.Acts s.exitDoze
  | dozeTested : s.Acts s.dozeTest
  | scanned (f : Scan) (smp : Samples) : s.Acts (s.scanned f smp)
  | faulted (changed : Bool) : s.Acts (s.onFault changed)
  | estimated (r : ScanRecord) : s.Acts (s.estimated r).1
  | controlled (r : ScanRecord) : s.Acts (s.controlled r).1
  | sourceChanged : s.Acts s.sourceChanged
  | takenUp (r : ResetInfo) (p : Profile) (source : ProfileSource) (adr : BitVec 4) (br : BitVec 2)
      (reset : s.inReset = some r) (loads : p.Loads) : s.Acts (s.takesUp r p source adr br)
  | retried (i : Ch) (waits : s.chans[i].prot = .tripWait) : s.Acts (s.setChan i s.chans[i].toNormal).resolveOutputs
  | ranWell (i : Ch) : s.Acts (s.setChan i { s.chans[i] with retries := 0, goodRun := none })
  | blankingEnded (i : Ch) : s.Acts (s.setChan i { s.chans[i] with blankEnd := none })
  | runLockEnded (i : Ch) : s.Acts (s.setChan i { s.chans[i] with runLock := none }).resolve
  | restLockEnded (i : Ch) : s.Acts (s.setChan i { s.chans[i] with restLock := none }).derive.resolve
  | reconsidered : s.Acts s.resolve
  | holdExpired (i : Ch) : s.Acts ({ s.dropHolds (fun j => decide (j = i)) with
      notices := s.notices.edge .holdEnd true }.report .holdExpiry [channelNo i]).resolve
  | saveEnded (im : Option Image) (o : SaveOutcome) (n : Notices) :
      s.Acts { s with store := { s.store with image := im, saving := none, outcome := o }, notices := n }

/-- A chain of operations. -/
def State.Does : State → State → Prop := Relation.ReflTransGen State.Acts

namespace State.Does

theorem refl (s : State) : s.Does s := Relation.ReflTransGen.refl

theorem trans {s t u : State} (h : s.Does t) (k : t.Does u) : s.Does u := Relation.ReflTransGen.trans h k

theorem of_acts {s t : State} (h : s.Acts t) : s.Does t := Relation.ReflTransGen.single h

theorem acts {s t u : State} (h : s.Does t) (k : t.Acts u) : s.Does u := Relation.ReflTransGen.tail h k

theorem ite {s t u : State} {p : Prop} [Decidable p] (h : p → s.Does t) (k : ¬p → s.Does u) :
    s.Does (if p then t else u) := by
  split
  · exact h ‹_›
  · exact k ‹_›

/-- An operation that acts only under a condition. -/
theorem actsIf {s t u : State} {p : Prop} [Decidable p] (h : s.Does t) (k : p → t.Acts u) :
    s.Does (if p then u else t) := ite (fun c => h.acts (k c)) fun _ => h

end State.Does

/-! ### The link and the requests on it (R143, R147 to R156) -/

section
variable (s : State)

theorem State.onLink_does (f : Link → Link) : s.Does (s.onLink f) := .of_acts (.linked _)

theorem State.dropReply_does : s.Does s.dropReply := .actsIf (.refl s) fun _ => .linked _

theorem State.beginChar_does (start : Sample3) : s.Does (s.beginChar start) :=
  .ite (fun _ => s.onLink_does _) fun _ => s.onLink_does _

theorem State.fall_does (start : Sample3) : s.Does (s.fall start) :=
  .ite (fun _ => s.dropReply_does.acts (.resetBy _))
    fun _ => (s.dropReply_does.acts .dozeEnded).trans (State.beginChar_does _ start)

theorem State.address_does (a : Nat) : s.Does (s.address a) := .actsIf (.refl s) fun _ => .linked _

variable {s}

/-- Handing a request over is its acceptance, its answer, and its reply or the reset that it brings (R143, R153, R154). -/
theorem State.handle_does (awake : s.inReset = none) (kind : Nat) (r : Req) {f : List Nat → State → Answer}
    (hf : ∀ (p : List Nat) (u : State), u.Serves (f p u).state) : s.Does (s.handle kind r f) := by
  have taken : s.Does s.frameGood := .of_acts (.linked _)
  have answered := taken.acts (.served (by rw [State.frameGood_inReset, awake]) (hf (r.payload.map BitVec.toNat) s.frameGood))
  exact .ite (fun _ => taken) fun _ => .ite (fun _ => .actsIf answered fun _ => .resetBy _) fun _ => answered.acts (.linked _)

theorem State.acceptFrame_does (awake : s.inReset = none) (frame : List Byte) : s.Does (s.acceptFrame frame) := by
  unfold State.acceptFrame; split
  · exact State.handle_does awake _ _ fun p u => answerKind_serves p u _
  · exact .refl s

theorem State.data_does (awake : s.inReset = none) (d : Nat) : s.Does (s.data d) :=
  .ite (fun _ => s.onLink_does _) fun _ =>
    .ite (fun _ => .ite (fun _ => State.acceptFrame_does awake _) fun _ => s.onLink_does _) fun _ => s.onLink_does _

theorem State.character_does (awake : s.inReset = none) (isAddress : Bool) (d : Nat) :
    s.Does (s.character isAddress d) := by
  unfold State.character; split
  · exact .ite (fun _ => s.address_does d) fun _ => .refl s
  · exact .ite (fun _ => (s.onLink_does _).trans (State.address_does _ d)) fun _ => State.data_does awake d
  · exact .refl s

theorem State.takeChar_does (awake : s.inReset = none) (fall : Nat) (c : CharSamples) : s.Does (s.takeChar fall c) :=
  .ite (fun _ => (s.onLink_does _).trans (State.character_does (s := s.onLink _) awake _ _))
    fun _ => (s.onLink_does _).trans (State.onLink_does _ _)

/-! ### Scans and the discrete inputs (R14, R136) -/

/-- In every order a completion is a chain of the blocks' parts (R14, R119, R140). -/
theorem State.completeScan_does (f : Scan) (smp : Samples) (ord : CompletionOrder) : s.Does (s.completeScan f smp ord) := by
  obtain ⟨faultFirst, controllerFirst, testFirst⟩ := ord
  have scanned : s.Does (s.scanned f smp) := .of_acts (.scanned f smp)
  simp only [State.completeScan, State.consume]
  generalize s.scanned f smp = s0 at scanned ⊢
  have tested : s.Does (if testFirst then s0.dozeTest else s0) := scanned.actsIf fun _ => .dozeTested
  generalize (if testFirst then s0.dozeTest else s0) = s1 at tested ⊢
  have ends {u : State} (told : Bool) (taken : s.Does u) :
      let v := if told then u.exitDoze else u
      let w := if testFirst then v else v.dozeTest
      s.Does (if w.scanner.timer.isNone && w.scanner.inFlight.isNone then w.beginScan else w) := by
    intro v w
    have left : s.Does v := taken.actsIf fun _ => .dozeEnded
    exact .actsIf (.ite (fun _ => left) fun _ => left.acts .dozeTested) fun _ => .scanBegun
  cases faultFirst <;> cases controllerFirst <;> simp only [if_true, if_false, Bool.false_eq_true]
  · exact ends _ (((tested.acts (.estimated _)).acts (.controlled _)).acts (.faulted _))
  · exact ends _ (((tested.acts (.controlled _)).acts (.estimated _)).acts (.faulted _))
  · exact ends _ (((tested.acts (.faulted _)).acts (.estimated _)).acts (.controlled _))
  · exact ends _ (((tested.acts (.faulted _)).acts (.controlled _)).acts (.estimated _))

theorem State.sourceInput_does (first : Bool) : s.Does (s.sourceInput first) := by
  have noticed : s.Does { s with notices := s.notices.edge .input true } := .of_acts (.noticed _)
  exact .ite (fun _ => (noticed.acts .dozeEnded).acts .sourceChanged) fun _ => (noticed.acts .sourceChanged).acts .dozeEnded

theorem State.installInput_does : s.Does s.installInput := .ite (fun _ => .refl s) fun _ => .of_acts .lapsed

/-! ### Requests and events (R144, R153) -/

theorem State.event_does {t : State} {dt : Nat} {f : State → State}
    (hf : ∀ u : State, u.inReset = none → u.Does (f u)) (h : s.event dt f = .next t) : s.Does t := by
  cases h
  refine .trans (.of_acts (.elapsed dt)) (.ite (fun _ => .refl _) fun awake => hf _ ?_)
  simpa using awake

theorem State.request_does {t : State} {dt kind : Nat} {r : Req} {f : List Nat → State → Answer}
    (hf : ∀ (p : List Nat) (u : State), u.Serves (f p u).state) (h : s.request dt kind r f = .next t) : s.Does t :=
  State.event_does (f := fun u => if u.link.rx = .send then u
      else if u.link.reply.any Reply.thenReset then u.resetBy .request else u.handle kind r f)
    (fun u awake => .ite (fun _ => .refl u) fun _ => .ite (fun _ => .of_acts (.resetBy _))
      fun _ => State.handle_does awake kind r hf) h

/-- An event that is one operation under a guard. -/
theorem State.guarded_does {t : State} {dt : Nat} (p : State → Prop) [DecidablePred p] (f : State → State)
    (hf : ∀ u : State, p u → u.Acts (f u)) (h : s.event dt (fun u => if p u then f u else u) = .next t) : s.Does t :=
  State.event_does (fun u _ => .actsIf (.refl u) (hf u)) h

end

/-! ### Every command -/

section
variable (dt : Nat) (s : State) {t : State}

theorem execCharacterTaken_does (c : CharSamples) (h : execCharacterTaken dt c s = .next t) : s.Does t := by
  refine State.event_does (fun u awake => ?_) h
  split
  · exact .ite (fun _ => State.takeChar_does awake _ c) fun _ => .refl u
  · exact .refl u

theorem execReplyStart_does (h : execReplyStart dt s = .next t) : s.Does t := by
  refine State.event_does (fun u _ => ?_) h
  split
  · exact .actsIf (.refl u) fun _ => .linked _
  · exact .refl u

theorem execReplyEnd_does (h : execReplyEnd dt s = .next t) : s.Does t := by
  refine State.event_does (fun u _ => ?_) h
  split
  · exact .ite (fun _ => .actsIf (u.onLink_does _) fun _ => .resetBy _) fun _ => .refl u
  · exact .refl u

theorem execLinkQuiet_does (h : execLinkQuiet dt s = .next t) : s.Does t :=
  State.event_does (fun u _ => .ite (fun _ => (u.onLink_does _).acts .lapsed) fun _ => .refl u) h

theorem execScanComplete_does (smp : Samples) (ord : CompletionOrder) (h : execScanComplete dt smp ord s = .next t) :
    s.Does t := by
  refine State.event_does (fun u _ => ?_) h
  split
  · exact .ite (fun _ => State.completeScan_does _ smp ord) fun _ => .refl u
  · exact .refl u

theorem execDebouncedChange_does (i : Input) (first : Bool) (h : execDebouncedChange dt i first s = .next t) : s.Does t := by
  refine State.event_does (fun u _ => .ite (fun _ => ?_) fun _ => .refl u) h
  have level : u.Does (u.takeLevel i) := .of_acts (.powered _)
  cases i with
  | shore | ign => exact level.trans (State.sourceInput_does first)
  | install => exact level.trans State.installInput_does

theorem execResetEnd_does (adr : BitVec 4) (br : BitVec 2) (h : execResetEnd dt adr br s = .next t) : s.Does t := by
  have elapsed : s.Does (s.elapse dt) := .of_acts (.elapsed dt)
  cases reset : s.inReset with
  | none =>
    have idle : execResetEnd dt adr br s = .next (s.elapse dt) := by simp [execResetEnd, reset]
    rw [idle] at h; cases h; exact elapsed
  | some r =>
    obtain ⟨p, source, ends, loaded⟩ := exec_resetEnd dt adr br s r reset
    rw [exec] at ends
    rw [ends] at h; cases h
    exact elapsed.acts (.takenUp r p source adr br reset (.of_loadable loaded))

theorem execSaveEnd_does (good : Bool) (h : execSaveEnd dt good s = .next t) : s.Does t := by
  refine State.event_does (fun u _ => ?_) h
  split
  · exact .of_acts (.saveEnded _ _ _)
  · exact .refl u

theorem resetSource_does (src : ResetSource) : s.Does ((s.elapse dt).resetBy src) :=
  .acts (.of_acts (.elapsed dt)) (.resetBy src)

end

/-- Every command is a chain of operations. -/
theorem exec_does (c : Instr) (s t : State) (h : exec c s = .next t) : s.Does t := by
  cases c
  case ident => exact State.request_does ansIdent_serves h
  case status => exact State.request_does ansStatus_serves h
  case loadStatus => exact State.request_does ansLoadStatus_serves h
  case linkStatus => exact State.request_does ansLinkStatus_serves h
  case countersRead => exact State.request_does ansCountersRead_serves h
  case measure => exact State.request_does ansMeasure_serves h
  case switch => exact State.request_does ansSwitch_serves h
  case hold => exact State.request_does ansHold_serves h
  case releaseHold => exact State.request_does ansReleaseHold_serves h
  case force => exact State.request_does ansForce_serves h
  case clearTrip => exact State.request_does ansClearTrip_serves h
  case clearUsage => exact State.request_does ansClearUsage_serves h
  case ack => exact State.request_does ansAck_serves h
  case mask => exact State.request_does ansMask_serves h
  case countersClear => exact State.request_does ansCountersClear_serves h
  case clearLinkCounts => exact State.request_does ansClearLinkCounts_serves h
  case profileRead => exact State.request_does ansProfileRead_serves h
  case profileWriteBattery => exact State.request_does ansWriteBattery_serves h
  case profileWriteTiers => exact State.request_does ansWriteTiers_serves h
  case profileWriteLoads => exact State.request_does ansWriteLoads_serves h
  case profileWriteCurve => exact State.request_does ansWriteCurve_serves h
  case profileWriteSequence => exact State.request_does ansWriteSequence_serves h
  case profileWriteNotice => exact State.request_does ansWriteNotice_serves h
  case profileWriteCounters => exact State.request_does ansWriteCounters_serves h
  case profileWriteDoze => exact State.request_does ansWriteDoze_serves h
  case move => exact State.request_does ansMove_serves h
  case save => exact State.request_does ansSave_serves h
  case loadDefaults => exact State.request_does ansLoadDefaults_serves h
  case setChargeReserve => exact State.request_does ansSetChargeReserve_serves h
  case setChargeFull => exact State.request_does ansSetChargeFull_serves h
  case doze => exact State.request_does ansDoze_serves h
  case restart => exact State.request_does ansRestart_serves h
  case startBit => exact State.event_does (fun u _ => .ite (fun _ => .refl u) fun _ => u.fall_does _) h
  case characterTaken => exact execCharacterTaken_does _ s _ h
  case breakHeld => exact State.guarded_does _ _ (fun _ _ => .linked _) h
  case gap => exact State.guarded_does _ _ (fun _ _ => .linked _) h
  case replyStart => exact execReplyStart_does _ s h
  case replyEnd => exact execReplyEnd_does _ s h
  case linkQuiet => exact execLinkQuiet_does _ s h
  case scanBegin => exact State.guarded_does _ _ (fun _ _ => .scanBegun) h
  case scanComplete => exact execScanComplete_does _ s _ _ h
  case rawInputChange dt _ _ => cases h; exact .acts (.of_acts (.elapsed dt)) (.powered _)
  case debouncedChange => exact execDebouncedChange_does _ s _ _ h
  case powerOn | supplyLow | rstn => cases h; exact resetSource_does _ s _
  case resetEnd => exact execResetEnd_does _ s _ _ h
  case retryExpiry => exact State.guarded_does _ _ (fun _ due => .retried _ due.1) h
  case goodRun => exact State.guarded_does _ _ (fun _ _ => .ranWell _) h
  case runLockExpiry => exact State.guarded_does _ _ (fun _ _ => .runLockEnded _) h
  case restLockExpiry => exact State.guarded_does _ _ (fun _ _ => .restLockEnded _) h
  case blankingEnd => exact State.guarded_does _ _ (fun _ _ => .blankingEnded _) h
  case shedSpacingEnd | restoreSpacingEnd | settleTimeEnd => exact State.guarded_does _ _ (fun _ _ => .reconsidered) h
  case holdExpiry => exact State.guarded_does _ _ (fun _ _ => .holdExpired _) h
  case saveEnd => exact execSaveEnd_does _ s _ h

/-- What every operation keeps every step keeps (the queue alone stands outside the operations). -/
theorem step_keeps {P : State → Prop} (acts : ∀ s t : State, s.Acts t → P s → P t)
    (queue : ∀ (s : State) (rest : List Instr), P s → P { s with pending := rest }) (s t : State) (h : step s = .next t)
    (law : P s) : P t := by
  unfold step at h
  split at h
  · cases h; exact law
  · rename_i c rest _
    have chain := exec_does c { s with pending := rest } t h
    exact Relation.ReflTransGen.rec (queue s rest law) (fun _ act kept => acts _ _ act kept) chain

end Sys2Proof.Machine
end

section
/-! PROOFS. The marks that are due at once, and the marks that may stand. -/

namespace Sys2Proof.Machine

/-! ### One channel (R97, R98, R114) -/

/-- A mark stands only on a channel that is fitted, has demand ON and is not EXEMPT (R97, R98). -/
def Chan.MarkSound (c : Chan) : Prop :=
  c.mark.isSome = true → c.cfg.fitted = true ∧ c.demand = true ∧ c.cfg.cls ≠ .exempt

theorem Chan.MarkSound.of_unmarked {c : Chan} (h : c.mark = none) : c.MarkSound := fun marked => by
  rw [h] at marked; cases marked

theorem Chan.Sheddable.markSound {c : Chan} (h : c.Sheddable) : c.MarkSound :=
  fun _ => ⟨h.1, h.2.1, h.2.2.2⟩

/-- What the mark of a channel and its being shed rest on stands. -/
structure Chan.Alike (c d : Chan) : Prop where
  mark : d.mark = c.mark
  demand : d.demand = c.demand
  force : d.force = c.force
  fitted : d.cfg.fitted = c.cfg.fitted
  cls : d.cfg.cls = c.cfg.cls

theorem Chan.Alike.refl (c : Chan) : c.Alike c := ⟨rfl, rfl, rfl, rfl, rfl⟩

theorem Chan.Alike.trans {c d e : Chan} (h : c.Alike d) (k : d.Alike e) : c.Alike e :=
  ⟨k.mark.trans h.mark, k.demand.trans h.demand, k.force.trans h.force, k.fitted.trans h.fitted, k.cls.trans h.cls⟩

theorem Chan.Alike.markSound {c d : Chan} (h : c.Alike d) (law : c.MarkSound) : d.MarkSound := by
  rw [Chan.MarkSound, h.mark, h.fitted, h.demand, h.cls]; exact law

theorem Chan.Alike.sheddable {c d : Chan} (h : c.Alike d) : d.Sheddable ↔ c.Sheddable := by
  simp only [Chan.Sheddable, h.fitted, h.demand, h.force, h.cls]

theorem Chan.Alike.derive (now : Nat) (c : Chan) : c.Alike (c.derive now) := by constructor <;> simp

theorem Chan.trip_alike (now n : Nat) (c : Chan) : c.Alike (c.trip now n) := by
  simp only [Chan.trip]; split <;> exact ⟨rfl, rfl, rfl, rfl, rfl⟩

/-- No completion changes a mark or what it rests on (R80, R81, R87, R88). -/
theorem Chan.treat_alike (now n k : Nat) (c : Chan) : c.Alike (c.treat now n k).chan := by
  have used : c.Alike (c.use n k) := by rw [Chan.use_eq]; exact ⟨rfl, rfl, rfl, rfl, rfl⟩
  have protected' : (c.use n k).Alike ((c.use n k).protect now n).chan := by
    simp only [Chan.protect]; split
    · exact Chan.trip_alike _ _ _
    · exact ⟨rfl, rfl, rfl, rfl, rfl⟩
  simp only [Chan.treat]
  rw [Chan.checkOpen_eq]
  exact (used.trans protected').trans ⟨rfl, rfl, rfl, rfl, rfl⟩

/-- New settings keep the law of a channel's mark: an unfitting and a change to EXEMPT clear it, and what was not fitted had
none (R69, R70, R99). -/
theorem Chan.MarkSound.write {c : Chan} (law : c.MarkSound) (cfg : LoadSettings) : (c.write cfg).MarkSound := by
  simp only [Chan.write]
  split
  · exact .of_unmarked rfl
  rename_i exempt
  split
  · exact .of_unmarked rfl
  rename_i unfitted
  split
  · rename_i joined
    intro marked
    rw [Bool.and_eq_true, Bool.not_eq_true'] at joined
    rw [(law marked).1] at joined; cases joined.1
  · intro marked
    obtain ⟨fitted, demand, cls⟩ := law marked
    refine ⟨?_, demand, fun becomes => exempt ⟨cls, becomes⟩⟩
    simpa [fitted] using unfitted

/-! ### The marks of the part (R97, R108, R114) -/

theorem State.markLaw_iff (s : State) : s.MarkLaw ↔ ∀ i : Ch, s.chans[i].MarkSound := Iff.rfl

/-- In SETTLE and at depth 5 every channel that the Sequencer may shed is marked (R108, R109, R114). -/
def State.DueMarked (s : State) : Prop :=
  s.seq.st = .settle ∨ s.tiers.depth = 5 → ∀ i : Ch, s.chans[i].Sheddable → s.chans[i].mark.isSome = true

/-- At depth 5 the must-shed set holds every channel that the Sequencer may shed (R96). -/
theorem State.mustShed_five {s : State} (depth : s.tiers.depth = 5) (i : Ch) :
    s.mustShed i = true ↔ s.chans[i].Sheddable := by
  refine ⟨State.sheddable_of_mustShed, fun ⟨fitted, demand, force, cls⟩ => ?_⟩
  simp only [State.mustShed, fitted, demand, force, depth]
  cases e : s.chans[i].cfg.cls
  · simp
  · simp
  · exact absurd e cls

theorem State.markedLaw_iff (s : State) : s.MarkedLaw ↔ (s.inReset = none → s.DueMarked) := by
  constructor
  · intro law awake due i may
    obtain ⟨fitted, demand, force, cls⟩ := may
    rcases due with settle | depth
    · exact law.settle awake settle i fitted demand force cls
    · exact law.cutoff awake depth i ((State.mustShed_five depth i).2 ⟨fitted, demand, force, cls⟩)
  · exact fun law => ⟨fun awake settle i fitted demand force cls => law awake (.inl settle) i ⟨fitted, demand, force, cls⟩,
      fun awake depth i must => law awake (.inr depth) i (State.sheddable_of_mustShed must)⟩

/-! ### What a marking and a step make of the marks -/

/-- A channel is marked after a marking when it was marked or is marked now (R97). -/
theorem State.markEach_marked (s : State) (f : Ch → Option Mark) (i : Ch) :
    (s.markEach f).chans[i].mark.isSome = (s.chans[i].mark.isSome || (f i).isSome) := by
  rw [State.markEach_get]; cases f i <;> simp

/-- A marking of channels that the Sequencer may shed keeps the law of the marks. -/
theorem State.MarkLaw.markEach {s : State} (law : s.MarkLaw) (f : Ch → Option Mark)
    (may : ∀ i : Ch, (f i).isSome = true → s.chans[i].Sheddable) : (s.markEach f).MarkLaw := by
  intro i
  have here := may i
  have stands := law i
  rw [State.markEach_get]
  cases e : f i with
  | none => exact stands
  | some m =>
    obtain ⟨fitted, demand, -, cls⟩ := here (by rw [e]; rfl)
    exact fun _ => ⟨fitted, demand, cls⟩

/-- A channel that arrives is marked only when the Sequencer may shed it (R110, R114). -/
theorem State.sheddable_of_arrivalMark {s : State} {i : Ch} (h : (s.arrivalMark i).isSome = true) :
    s.chans[i].Sheddable := by
  simp only [State.arrivalMark] at h
  split_ifs at h with marked must settle
  · cases h
  · exact State.sheddable_of_mustShed must
  · simp only [Bool.and_eq_true, decide_eq_true_eq] at settle
    obtain ⟨⟨⟨⟨-, fitted⟩, demand⟩, force⟩, cls⟩ := settle
    exact ⟨fitted, demand, force, cls⟩
  · cases h

/-- In SETTLE every channel that the Sequencer may shed and that is not marked has a mark to come (R114). -/
theorem State.arrivalMark_settle {s : State} {i : Ch} (settle : s.seq.st = .settle) (may : s.chans[i].Sheddable)
    (unmarked : s.chans[i].mark.isSome = false) : (s.arrivalMark i).isSome = true := by
  obtain ⟨fitted, demand, force, cls⟩ := may
  simp only [State.arrivalMark, unmarked, settle, fitted, demand, force]
  split_ifs <;> simp_all

theorem State.MarkLaw.massShed {s : State} (law : s.MarkLaw) : s.massShed.MarkLaw := by
  have marking : (s.markEach fun j => if s.shedCandidate j then some s.shedMark else none).MarkLaw := by
    refine law.markEach _ fun i some' => ?_
    split at some'
    · rename_i candidate; exact State.sheddable_of_mustShed (Bool.and_eq_true_iff.1 candidate).1
    · cases some'
  rw [State.markLaw_iff]
  intro i
  rcases s.massShed_get i with e | e <;> rw [e]
  · exact law i
  · exact (State.markLaw_iff _).1 marking i

theorem State.MarkLaw.markSettle {s : State} (law : s.MarkLaw) : s.markSettle.MarkLaw := by
  unfold State.markSettle; split
  · exact law.markEach _ fun i => State.sheddable_of_arrivalMark
  · exact law

theorem State.MarkLaw.takeStep {s : State} (law : s.MarkLaw) : s.takeStep.MarkLaw := by
  rw [State.markLaw_iff]
  intro i
  unfold State.takeStep; split
  · rename_i j choice
    rw [State.shedStep_get]; split
    · rename_i here
      obtain ⟨fitted, demand, -, cls⟩ :=
        State.sheddable_of_mustShed (Bool.and_eq_true_iff.1 (State.shedChoice_candidate choice).1).1
      rw [here]; exact fun _ => ⟨fitted, demand, cls⟩
    · exact law i
  · split
    · rw [State.restoreStep_get]; split
      · exact .of_unmarked rfl
      · exact law i
    · exact law i

/-- A reconsideration keeps the law of the marks (R97, R98, R117). -/
theorem State.MarkLaw.reconsider {s : State} (law : s.MarkLaw) : s.reconsider.MarkLaw := by
  have stepped := law.massShed.markSettle.takeStep
  rw [State.markLaw_iff] at stepped ⊢
  simp only [State.reconsider]
  exact stepped

/-- The mass shed leaves no channel unmarked that the Sequencer may shed (R108, R109). -/
theorem State.massShed_marked {s : State} {i : Ch} (depth : s.tiers.depth = 5) (may : s.chans[i].Sheddable) :
    s.massShed.chans[i].mark.isSome = true := by
  have must := (State.mustShed_five depth i).2 may
  by_cases candidates : channels.any s.shedCandidate = true
  · have marking : s.massShed.chans[i].mark.isSome =
        (s.markEach fun j => if s.shedCandidate j then some s.shedMark else none).chans[i].mark.isSome := by
      rw [State.massShed, if_pos ⟨depth, candidates⟩]
    rw [marking, State.markEach_marked]
    cases marked : s.chans[i].mark.isSome
    · rw [State.shedCandidate, must, ← Option.not_isSome, marked]; rfl
    · rfl
  · have none' := forall_of_any_false candidates i
    rw [State.massShed, if_neg fun both => candidates both.2]
    rw [State.shedCandidate, must, Bool.true_and] at none'
    exact Option.isNone_eq_false_iff.1 none'

theorem State.markSettle_marked {s : State} {i : Ch} (h : s.chans[i].mark.isSome = true) :
    s.markSettle.chans[i].mark.isSome = true := by
  unfold State.markSettle; split
  · rw [State.markEach_marked, h, Bool.true_or]
  · exact h

/-- In SETTLE the marking leaves no channel unmarked that the Sequencer may shed (R114). -/
theorem State.markSettle_settle {s : State} {i : Ch} (settle : s.seq.st = .settle) (may : s.chans[i].Sheddable) :
    s.markSettle.chans[i].mark.isSome = true := by
  rw [State.markSettle, if_pos settle, State.markEach_marked]
  cases marked : s.chans[i].mark.isSome
  · exact State.arrivalMark_settle settle may marked
  · rfl

/-- While SETTLE goes on a step clears no mark: it may only shed (R105, R113). -/
theorem State.takeStep_settling {s : State} {i : Ch} (settling : s.settling = true) (h : s.chans[i].mark.isSome = true) :
    s.takeStep.chans[i].mark.isSome = true := by
  have held : s.restoreChoice = none := by simp [State.restoreChoice, settling]
  unfold State.takeStep; split
  · rw [State.shedStep_get]; split
    · rfl
    · exact h
  · rw [held]; exact h

/-- After a reconsideration all that must be marked at once is marked, whatever stood before it (R108, R109, R114, R117). -/
theorem State.reconsider_dueMarked (s : State) : s.reconsider.DueMarked := by
  have moves := s.massShed_moves.trans s.massShed.markSettle_moves
  have stepped := moves.trans (State.takeStep_moves _)
  intro due i may
  have may' : s.chans[i].Sheddable := (stepped.chans i).sheddable.1 may
  change s.massShed.markSettle.takeStep.chans[i].mark.isSome = true
  rcases due with settle | depth
  · have settling : s.massShed.markSettle.settling = true := by
      by_contra ended
      have st : s.reconsider.seq.st = s.massShed.markSettle.takeStep.seqState s.massShed.markSettle.settling := rfl
      rw [settle, eq_false_of_ne_true ended] at st
      exact State.seqState_st _ st.symm
    have stands : s.massShed.seq.st = .settle := by
      rw [← State.markSettle_seqSt]
      exact of_decide_eq_true (Bool.and_eq_true_iff.1 settling).1
    exact State.takeStep_settling settling (State.markSettle_settle stands ((s.massShed_moves.chans i).sheddable.2 may'))
  · have depth' : s.tiers.depth = 5 := by rw [← s.reconsider_moves.tiers]; exact depth
    have marked := State.markSettle_marked (State.massShed_marked depth' may')
    rw [State.takeStep_other]
    · exact marked
    · exact State.shedCandidate_marked _ _ marked
    · exact State.restoreCandidate_must _ _ (by rw [moves.mustShed]; exact (State.mustShed_five depth' i).2 may')

/-! ### Where all is marked that must be marked at once -/

theorem State.DueMarked.shedCandidate {s : State} (due : s.DueMarked) (depth : s.tiers.depth = 5) (i : Ch) :
    s.shedCandidate i = false := by
  by_cases must : s.mustShed i = true
  · exact s.shedCandidate_marked i (due (.inr depth) i (State.sheddable_of_mustShed must))
  · rw [State.shedCandidate, eq_false_of_ne_true must]; rfl

/-- The mass shed finds no candidate (R108, R109). -/
theorem State.DueMarked.massShed {s : State} (due : s.DueMarked) : s.massShed = s := by
  refine if_neg fun ⟨depth, any⟩ => ?_
  obtain ⟨i, -, candidate⟩ := List.any_eq_true.1 any
  rw [due.shedCandidate depth i] at candidate; cases candidate

/-- The marking in SETTLE marks no channel (R114). -/
theorem State.DueMarked.markSettle {s : State} (due : s.DueMarked) (i : Ch) : s.markSettle.chans[i] = s.chans[i] := by
  unfold State.markSettle; split
  · rename_i settle
    refine State.markEach_none _ _ _ ?_
    by_contra arrives
    have some' := Option.isSome_iff_ne_none.2 arrives
    have marked := due (.inl settle) i (State.sheddable_of_arrivalMark some')
    rw [State.arrivalMark, if_pos marked] at some'; cases some'
  · rfl

end Sys2Proof.Machine
end

section
/-! PROOFS. The laws of the order, of the store and of the marks through every operation, and so through every step. -/

namespace Sys2Proof.Machine

/-! ### What keeps the laws (R93, R97, R98, R108, R114, R173) -/

/-- The laws of the order, of the store and of the marks are kept. -/
structure State.KeepsLaws (s t : State) : Prop where
  order : s.OrderLaw → t.OrderLaw
  store : s.StoreLaw → t.StoreLaw
  mark : s.MarkLaw → t.MarkLaw
  marked : s.MarkedLaw → t.MarkedLaw

/-- A change that the Sequencer has yet to reconsider: what must be marked at once may stand unmarked. -/
structure State.Prepares (s t : State) : Prop where
  order : s.OrderLaw → t.OrderLaw
  store : s.StoreLaw → t.StoreLaw
  mark : s.MarkLaw → t.MarkLaw

/-- All that the laws read stands. -/
structure State.Alike (s t : State) : Prop where
  order : t.seq.order = s.seq.order
  st : t.seq.st = s.seq.st
  depth : t.tiers.depth = s.tiers.depth
  store : t.store = s.store
  inReset : t.inReset = s.inReset
  chans : ∀ i : Ch, s.chans[i].Alike t.chans[i]

theorem State.OrderLaw.of_order {s t : State} (law : s.OrderLaw) (h : t.seq.order = s.seq.order) : t.OrderLaw := by
  rw [State.OrderLaw, h]; exact law

theorem State.StoreLaw.of_store {s t : State} (law : s.StoreLaw) (store : t.store = s.store)
    (inReset : t.inReset = s.inReset) : t.StoreLaw := by
  have saving : t.isSaving = s.isSaving := by rw [State.isSaving, store]; rfl
  exact ⟨by rw [saving, store]; exact law.invalid, by rw [saving, inReset]; exact law.idle⟩

theorem State.MarkedLaw.during_reset {s : State} (h : s.inReset.isSome = true) : s.MarkedLaw :=
  (State.markedLaw_iff s).2 fun awake => by rw [awake] at h; cases h

namespace State.Alike

theorem refl (s : State) : s.Alike s := ⟨rfl, rfl, rfl, rfl, rfl, fun _ => .refl _⟩

theorem trans {s t u : State} (h : s.Alike t) (k : t.Alike u) : s.Alike u :=
  ⟨k.order.trans h.order, k.st.trans h.st, k.depth.trans h.depth, k.store.trans h.store, k.inReset.trans h.inReset,
    fun i => (h.chans i).trans (k.chans i)⟩

theorem ite {s t u : State} {p : Prop} [Decidable p] (h : s.Alike t) (k : s.Alike u) : s.Alike (if p then t else u) := by
  split
  · exact h
  · exact k

theorem of_chans {s t : State} (seq : t.seq = s.seq) (tiers : t.tiers = s.tiers) (store : t.store = s.store)
    (inReset : t.inReset = s.inReset) (chans : ∀ i : Ch, s.chans[i].Alike t.chans[i]) : s.Alike t :=
  ⟨by rw [seq], by rw [seq], by rw [tiers], store, inReset, chans⟩

/-- A change of other components than the channels. -/
theorem of_others {s t : State} (seq : t.seq = s.seq) (tiers : t.tiers = s.tiers) (store : t.store = s.store)
    (inReset : t.inReset = s.inReset) (chans : t.chans = s.chans) : s.Alike t :=
  of_chans seq tiers store inReset fun i => by rw [chans]; exact .refl _

theorem report {s t : State} (h : s.Alike t) (k : EventKind) (l : List Nat) : s.Alike (t.report k l) :=
  h.trans (.of_others (by simp) (by simp) (by simp) (by simp) (by simp))

theorem derive {s t : State} (h : s.Alike t) : s.Alike t.derive :=
  h.trans (.of_chans (by simp) (by simp) (by simp) (by simp) fun i => by rw [State.derive_get]; exact .derive _ _)

theorem setChan (s : State) (i : Ch) {c : Chan} (h : s.chans[i].Alike c) : s.Alike (s.setChan i c) :=
  .of_chans (by simp) (by simp) (by simp) (by simp) fun j => by
    rw [State.setChan_get]; split
    · rename_i e; rw [e]; exact h
    · exact .refl _

theorem mapChans (s : State) (f : Ch → Chan → Chan) (h : ∀ i : Ch, s.chans[i].Alike (f i s.chans[i])) :
    s.Alike (s.mapChans f) :=
  .of_chans (by simp) (by simp) (by simp) (by simp) fun i => by rw [State.mapChans_get]; exact h i

theorem dueMarked {s t : State} (h : s.Alike t) (due : s.DueMarked) : t.DueMarked := by
  intro here i may
  rw [h.st, h.depth] at here
  rw [(h.chans i).mark]; exact due here i ((h.chans i).sheddable.1 may)

theorem keepsLaws {s t : State} (h : s.Alike t) : s.KeepsLaws t where
  order law := law.of_order h.order
  store law := law.of_store h.store h.inReset
  mark law i := (h.chans i).markSound (law i)
  marked law := by
    rw [State.markedLaw_iff] at law ⊢
    exact fun awake => h.dueMarked (law (by rw [← h.inReset]; exact awake))

theorem prepares {s t : State} (h : s.Alike t) : s.Prepares t := ⟨h.keepsLaws.order, h.keepsLaws.store, h.keepsLaws.mark⟩

end State.Alike

/-- The Sequencer's moves keep the laws of the order and of the store; they keep that of the marks where they are said to. -/
theorem State.Moves.prepares {s t : State} (h : s.Moves t) (mark : s.MarkLaw → t.MarkLaw) : s.Prepares t :=
  ⟨fun law => law.of_order h.order, fun law => law.of_store h.store h.inReset, mark⟩

theorem State.Prepares.trans {s t u : State} (h : s.Prepares t) (k : t.Prepares u) : s.Prepares u :=
  ⟨k.order ∘ h.order, k.store ∘ h.store, k.mark ∘ h.mark⟩

/-- A change of the channels, each of which keeps its mark sound. -/
theorem State.Prepares.of_chans {s t : State} (order : t.seq.order = s.seq.order) (store : t.store = s.store)
    (inReset : t.inReset = s.inReset) (chans : ∀ i : Ch, s.chans[i].MarkSound → t.chans[i].MarkSound) : s.Prepares t :=
  ⟨fun law => law.of_order order, fun law => law.of_store store inReset, fun law i => chans i (law i)⟩

/-- A reconsideration keeps the laws, and marks what must be marked at once (R117). -/
theorem State.reconsider_keepsLaws (s : State) : s.KeepsLaws s.reconsider := by
  have prepares := s.reconsider_moves.prepares State.MarkLaw.reconsider
  exact ⟨prepares.order, prepares.store, prepares.mark,
    fun _ => (State.markedLaw_iff _).2 fun _ => s.reconsider_dueMarked⟩

namespace State.KeepsLaws

theorem refl (s : State) : s.KeepsLaws s := ⟨id, id, id, id⟩

theorem trans {s t u : State} (h : s.KeepsLaws t) (k : t.KeepsLaws u) : s.KeepsLaws u :=
  ⟨k.order ∘ h.order, k.store ∘ h.store, k.mark ∘ h.mark, k.marked ∘ h.marked⟩

theorem ite {s t u : State} {p : Prop} [Decidable p] (h : s.KeepsLaws t) (k : s.KeepsLaws u) :
    s.KeepsLaws (if p then t else u) := by
  split
  · exact h
  · exact k

/-- The settling of the outputs derives and reconsiders (R71, R117). -/
theorem settleOutputs {s t : State} (h : s.KeepsLaws t) (n : Nat) : s.KeepsLaws (t.settleOutputs n) := by
  refine h.trans ?_
  induction n generalizing t with
  | zero => exact (Alike.refl t).derive.keepsLaws
  | succ n ih =>
    have round := (Alike.refl t).derive.keepsLaws.trans t.derive.reconsider_keepsLaws
    exact .ite (.refl t) (round.trans (ih (h.trans round)))

theorem resolve {s t : State} (h : s.KeepsLaws t) : s.KeepsLaws t.resolve :=
  (h.trans t.reconsider_keepsLaws).settleOutputs _

end State.KeepsLaws

/-- Whatever stood unmarked before it, resolving a change brings the laws (R117). -/
theorem State.Prepares.resolve {s t : State} (h : s.Prepares t) : s.KeepsLaws t.resolve := by
  have settled := (KeepsLaws.refl t.reconsider).settleOutputs outputRounds
  have marked : t.reconsider.MarkedLaw := (State.markedLaw_iff _).2 fun _ => t.reconsider_dueMarked
  have reconsidered := t.reconsider_keepsLaws
  exact ⟨settled.order ∘ reconsidered.order ∘ h.order, settled.store ∘ reconsidered.store ∘ h.store,
    settled.mark ∘ reconsidered.mark ∘ h.mark, fun _ => settled.marked marked⟩

theorem State.Alike.resolve {s t : State} (h : s.Alike t) : s.KeepsLaws t.resolve := h.prepares.resolve

/-- A change of the records that the Sequencer reconsiders when the depth has changed (R59). -/
theorem State.handed_keepsLaws {s t : State} (order : t.seq.order = s.seq.order) (st : t.seq.st = s.seq.st)
    (store : t.store = s.store) (inReset : t.inReset = s.inReset) (chans : t.chans = s.chans) (p : Prop) [Decidable p]
    (handed : s.tiers.depth ≠ t.tiers.depth → p) : s.KeepsLaws (if p then t.resolve else t) := by
  have alike (i : Ch) : s.chans[i].Alike t.chans[i] := by rw [chans]; exact .refl _
  split
  · exact (Prepares.of_chans order store inReset fun i => (alike i).markSound).resolve
  · rename_i quiet
    have depth : t.tiers.depth = s.tiers.depth := by
      by_contra changed
      exact quiet (handed fun same => changed same.symm)
    exact State.Alike.keepsLaws ⟨order, st, depth, store, inReset, alike⟩

theorem TierMonitor.handsOver_of_depth {before after : TierMonitor} (h : before.depth ≠ after.depth) :
    before.handsOver after = true := by simp [TierMonitor.handsOver, h]

/-! ### The answers to requests -/

/-- The place of a channel that is moved, and of the others (R94). -/
theorem moveTo_count (order : List Ch) (i : Ch) (q : Nat) (j : Ch) (h : order.count i = 1) :
    (moveTo order i q).count j = order.count j := by
  have others := congrArg (List.count j) (List.take_append_drop (q - 1) (order.filter fun j => decide (j ≠ i)))
  rw [List.count_append] at others
  simp only [moveTo]
  rw [List.count_append, List.count_cons, ← Nat.add_assoc, others]
  by_cases same : j = i
  · have gone : (order.filter fun j => decide (j ≠ i)).count i = 0 := List.count_eq_zero.2 (by simp)
    rw [same, gone, h]; simp
  · rw [List.count_filter (by simpa using same)]
    have apart : ¬i = j := fun e => same e.symm
    simp [apart]

section
variable (s : State)

theorem Chan.MarkSound.demandOn {c : Chan} (law : c.MarkSound) (b : Bool) :
    Chan.MarkSound { c with demand := c.demand || b } := fun marked =>
  have ⟨fitted, demand, cls⟩ := law marked
  ⟨fitted, by rw [demand]; rfl, cls⟩

/-- The demand of a set ON, and the marks of those that arrive: neither breaks the law of the marks (R110, R114). -/
theorem State.arrived_prepares (set arrives : Ch → Bool) : s.Prepares
    ((s.demandOn set).markEach fun i => if arrives i then (s.demandOn set).arrivalMark i else none) := by
  have on : s.Prepares (s.demandOn set) :=
    .of_chans (by simp [State.demandOn]) (by simp [State.demandOn]) (by simp [State.demandOn]) fun i law => by
      rw [State.demandOn_get]; exact law.demandOn _
  refine on.trans ((State.markEach_moves _ _).prepares fun law => law.markEach _ fun i some' => ?_)
  split at some'
  · exact State.sheddable_of_arrivalMark some'
  · cases some'

theorem State.switchOn_keepsLaws (set : Nat) : s.KeepsLaws (s.switchOn set) := by
  by_cases some' : (channels.any fun i => s.effective set i && !s.chans[i].demand) = true
  · rw [State.switchOn_eq, if_pos some']
    exact (s.arrived_prepares _ _).resolve
  · rw [State.switchOn, if_neg some']
    exact .refl s

theorem State.switchOff_keepsLaws (set : Nat) : s.KeepsLaws (s.switchOff set) := by
  refine .ite (State.Prepares.resolve (.of_chans (by simp) (by simp) (by simp) fun i law => ?_)) (.refl s)
  rw [State.dropHolds_chans, State.mapChans_get]; split
  · exact .of_unmarked rfl
  · exact law

theorem State.setForce_keepsLaws (i : Ch) (f : Force) : s.KeepsLaws (s.setForce i f) := by
  refine .ite (.refl s) (State.Prepares.resolve (.of_chans (by simp) (by simp) (by simp) fun j law => ?_))
  rw [State.setChan_get]; split
  · rename_i e; rw [e] at law; exact law
  · exact law

theorem State.clearTrips_keepsLaws (set : Nat) : s.KeepsLaws (s.clearTrips set) := by
  have cleared := State.Alike.mapChans s (fun i c => if s.effective set i then { c.toNormal with retries := 0 } else c)
    fun i => by split <;> exact ⟨rfl, rfl, rfl, rfl, rfl⟩
  simp only [State.clearTrips, State.resolveOutputs]
  generalize (s.mapChans fun i c => if s.effective set i then { c.toNormal with retries := 0 } else c) = t at cleared ⊢
  refine State.KeepsLaws.settleOutputs (State.Alike.keepsLaws (cleared.trans ?_)) _
  exact .of_others rfl rfl rfl rfl rfl

theorem State.clearUsage_alike (set : Nat) : s.Alike (s.clearUsage set) :=
  .mapChans s _ fun i => by split <;> exact ⟨rfl, rfl, rfl, rfl, rfl⟩

theorem State.writeTier_keepsLaws (k : Fin 5) (cfg : TierSettings) : s.KeepsLaws (s.writeTier k cfg) :=
  State.handed_keepsLaws (s := s) (t := { s with tiers := s.tiers.write k cfg s.sourcePresent }) rfl rfl rfl rfl rfl _
    TierMonitor.handsOver_of_depth

theorem State.writeLoads_prepares (new : Ch → LoadSettings) : s.Prepares (s.writeLoads new) := by
  refine .of_chans (by simp [State.writeLoads]) (by simp [State.writeLoads]) (s.writeLoads_inReset new) fun i law => ?_
  rw [State.writeLoads_get]; exact law.write _

theorem State.setLoads_keepsLaws (new : Ch → LoadSettings) : s.KeepsLaws (s.setLoads new) := by
  simp only [State.setLoads]
  split
  · exact (s.writeLoads_prepares new).resolve
  · rename_i idle
    refine State.Alike.keepsLaws (.of_chans (by simp [State.writeLoads]) (by simp [State.writeLoads])
      (by simp [State.writeLoads]) (s.writeLoads_inReset new) fun i => ?_)
    have still := forall_of_any_false idle i
    rw [State.writeLoads_get, Chan.write_idle _ _ still]
    simp only [LoadSettings.actsOnShedding, Bool.or_eq_false_iff, bne_eq_false_iff_eq, decide_eq_false_iff_not,
      not_not] at still
    obtain ⟨⟨fitted, cls⟩, -⟩ := still
    exact ⟨rfl, rfl, rfl, fitted.symm, cls.symm⟩

theorem State.setSequence_keepsLaws (cfg : SequenceSettings) : s.KeepsLaws (s.setSequence cfg) :=
  .ite (.refl s) (State.Alike.resolve (t := { s with seq := _ }) ⟨rfl, rfl, rfl, rfl, rfl, fun _ => .refl _⟩)

/-- A MOVE keeps each channel once in the list (R93, R94). -/
theorem State.setOrder_keepsLaws (i : Ch) (q : Nat) : s.KeepsLaws (s.setOrder (moveTo s.seq.order i q)) := by
  simp only [State.setOrder]
  refine .ite (.refl s) (State.Prepares.resolve ⟨fun law j => ?_, fun law => law.of_store rfl rfl, id⟩)
  exact (moveTo_count s.seq.order i q j (law i)).trans (law j)

/-- LOAD_DEFAULTS brings the factory order, which holds each channel once (R93, R175). -/
theorem State.takeProfile_prepares : s.Prepares (s.takeProfile factoryProfile) := by
  have written := s.writeLoads_prepares fun i => factoryProfile.loads[i]
  simp only [State.takeProfile]
  generalize (s.writeLoads fun i => factoryProfile.loads[i]) = t at written ⊢
  exact ⟨fun _ => State.reset_orderLaw.of_order rfl, fun law => (written.store law).of_store rfl rfl, written.mark⟩

theorem State.startSave_keepsLaws (awake : s.inReset = none) : s.KeepsLaws s.startSave where
  order law := law.of_order rfl
  store _ := ⟨fun _ => rfl, fun reset => by
    have same : s.startSave.inReset = s.inReset := rfl
    rw [same, awake] at reset; cases reset⟩
  mark law := law
  marked law := (State.markedLaw_iff _).2 ((State.markedLaw_iff s).1 law)

theorem State.enterDoze_alike : s.Alike s.enterDoze := .of_others (by simp) (by simp) (by simp) (by simp) (by simp)

variable {s}

/-- Outside a reset every answer keeps the laws. -/
theorem State.Serves.keepsLaws {t : State} (h : s.Serves t) (awake : s.inReset = none) : s.KeepsLaws t := by
  have others {u : State} (e : u = { s with
      est := u.est, holds := u.holds, link := u.link, notices := u.notices, tally := u.tally, power := u.power }) :
      s.Alike u := by rw [e]; exact .of_others rfl rfl rfl rfl rfl
  cases h with
  | nothing => exact .refl s
  | demandOn set => exact s.switchOn_keepsLaws set
  | demandOff set => exact s.switchOff_keepsLaws set
  | reheld => exact (others rfl).keepsLaws
  | held => exact State.Alike.resolve (others rfl)
  | released => exact .ite (others rfl).resolve (.refl s)
  | forced i f => exact s.setForce_keepsLaws i f
  | tripsCleared set => exact s.clearTrips_keepsLaws set
  | usageCleared set => exact (s.clearUsage_alike set).keepsLaws
  | acknowledged | masked | countersCleared | linkCountsCleared | batteryWritten | curveWritten | selectorsWritten
  | dozeWritten | charged => exact (others rfl).keepsLaws
  | tierWritten k cfg => exact s.writeTier_keepsLaws k cfg
  | loadsWritten first ws => exact s.setLoads_keepsLaws _
  | sequenceWritten w => exact s.setSequence_keepsLaws _
  | moved i q => exact s.setOrder_keepsLaws i _
  | saving => exact s.startSave_keepsLaws awake
  | defaults => exact s.takeProfile_prepares.resolve
  | dozes => exact s.enterDoze_alike.keepsLaws

/-! ### The other operations -/

variable (s)

/-- A reset abandons a save and leaves the marks, of which nothing is due until its end (R144, R174). -/
theorem State.resetBy_keepsLaws (src : ResetSource) : s.KeepsLaws (s.resetBy src) := by
  cases reset : s.inReset with
  | some r =>
    rw [s.resetBy_again src r reset]
    exact ⟨fun law => law.of_order rfl, fun law => ⟨law.invalid, fun _ => law.idle (by rw [reset]; rfl)⟩, id,
      fun _ => .during_reset rfl⟩
  | none =>
    have begun : s.resetBy src = { s.startReset with inReset := s.startReset.inReset.map fun r => r.act src } := by
      simp only [State.resetBy, reset]; rfl
    rw [begun]
    refine ⟨fun law => law.of_order rfl, fun _ => ⟨fun saving => (by cases saving), fun _ => rfl⟩, fun law i => ?_,
      fun _ => .during_reset rfl⟩
    simp only [State.startReset, Fin.getElem_fin, Vector.getElem_ofFn]
    exact law i

theorem State.lapse_keepsLaws : s.KeepsLaws s.lapse := by
  refine .ite (State.Prepares.resolve (.of_chans (by simp) (by simp) (by simp) fun i law => ?_)) (.refl s)
  rw [State.reportIf_chans, State.clearForces_get]; exact law

theorem State.beginScan_alike : s.Alike s.beginScan :=
  .of_chans (by simp) (by simp) (by simp) (by simp) fun i => by
    rw [State.beginScan_get]; exact ⟨rfl, rfl, rfl, rfl, rfl⟩

theorem State.exitDoze_alike : s.Alike s.exitDoze := by
  have left : s.Alike { s with
      power := { s.power with st := .run, lastExit := s.now }, scanner := { s.scanner with timer := none } } :=
    .of_others rfl rfl rfl rfl rfl
  exact .ite (.ite (left.trans (State.beginScan_alike _)) left) (.refl s)

theorem State.scanned_alike (f : Scan) (smp : Samples) : s.Alike (s.scanned f smp) := by
  simp only [State.scanned, State.reportIf]
  refine .report ?_ _ _
  exact .of_others rfl rfl rfl rfl rfl

/-- A record that changes the depth has the Sequencer reconsider (R59). -/
theorem State.estimated_keepsLaws (r : ScanRecord) : s.KeepsLaws (s.estimated r).1 := by
  simp only [State.estimated]
  generalize hu : State.reportIf (State.reportIf _ _ _) _ _ = u
  have order : u.seq.order = s.seq.order := by rw [← hu]; simp; split <;> rfl
  have st : u.seq.st = s.seq.st := by rw [← hu]; simp; split <;> rfl
  have store : u.store = s.store := by rw [← hu]; simp
  have inReset : u.inReset = s.inReset := by rw [← hu]; simp
  have chans : u.chans = s.chans := by rw [← hu]; simp
  have tiers : u.tiers = s.tiers := by rw [← hu]; simp
  split
  · have evaluated := u.evaluateTiers_keepsLoads r
    have kept : (u.evaluateTiers r).1.store = u.store := by simp [State.evaluateTiers]
    refine State.handed_keepsLaws ?_ ?_ (kept.trans store) (evaluated.inReset.trans inReset)
      (evaluated.chans.trans chans) _ fun changed => ?_
    · rw [State.evaluateTiers_seq, order]
    · rw [State.evaluateTiers_seq, st]
    · rw [TierMonitor.handsOver_of_depth changed, Bool.or_true]
  · exact State.Alike.keepsLaws ⟨order, st, by rw [tiers], store, inReset, fun i => by rw [chans]; exact .refl _⟩

theorem State.controlled_keepsLaws (r : ScanRecord) : s.KeepsLaws (s.controlled r).1 := by
  have treated (u : State) (seq : u.seq = s.seq) (tiers : u.tiers = s.tiers) (store : u.store = s.store)
      (inReset : u.inReset = s.inReset)
      (chans : ∀ i : Ch, u.chans[i] = (s.chans[i].treat s.now r.currents[i] r.power.factor).chan) : s.Alike u :=
    .of_chans seq tiers store inReset fun i => by rw [chans]; exact Chan.treat_alike _ _ _ _
  simp only [State.controlled]
  refine .ite (treated _ ?_ ?_ ?_ ?_ fun i => ?_).resolve (treated _ ?_ ?_ ?_ ?_ fun i => ?_).keepsLaws <;> simp

theorem State.sourceChanged_keepsLaws : s.KeepsLaws s.sourceChanged :=
  State.handed_keepsLaws (s := s) (t := { s with tiers := s.tiers.suppression s.sourcePresent }) rfl rfl rfl rfl rfl _
    TierMonitor.handsOver_of_depth

/-- A profile that a reset loads holds each channel once in its order (R93, R176). -/
theorem Profile.Loads.order {p : Profile} (h : p.Loads) (i : Ch) : p.order.count i = 1 := by
  rcases h with rfl | ⟨q, rfl⟩
  · exact State.reset_orderLaw i
  · obtain ⟨-, -, order, -⟩ := q.taken_fields
    rw [order]; split
    · rename_i law; exact law i
    · exact State.reset_orderLaw i

/-- The start-up marks stand on every channel that the Sequencer may shed, and on no other (R91, R112, R114). -/
theorem State.takesUp_keepsLaws (r : ResetInfo) (p : Profile) (source : ProfileSource) (adr : BitVec 4) (br : BitVec 2)
    (loads : p.Loads) : s.KeepsLaws (s.takesUp r p source adr br) := by
  have chan (i : Ch) := s.takesUp_loads r p source adr br i
  have order : (s.takesUp r p source adr br).seq.order = p.order := by rw [State.takesUp_seq]
  have saving : (s.takesUp r p source adr br).isSaving = false := by rw [State.isSaving, State.takesUp_store]; rfl
  generalize s.takesUp r p source adr br = t at chan order saving
  refine ⟨fun _ i => ?_, fun _ => ⟨fun h => ?_, fun _ => saving⟩, fun _ i marked => ?_,
    fun _ => (State.markedLaw_iff _).2 fun _ _ i may => ?_⟩
  · rw [order]; exact loads.order i
  · rw [saving] at h; cases h
  · obtain ⟨demand, mark, -⟩ := chan i
    rw [mark] at marked
    split at marked
    · rename_i stands
      rw [Bool.and_eq_true, decide_eq_true_eq] at stands
      refine ⟨?_, stands⟩
      rw [stands.1] at demand
      exact (Bool.and_eq_true_iff.1 demand.symm).1
    · cases marked
  · obtain ⟨-, mark, -⟩ := chan i
    obtain ⟨-, demand, -, cls⟩ := may
    rw [mark, demand, decide_eq_true cls]; rfl

theorem State.saveEnded_keepsLaws (im : Option Image) (o : SaveOutcome) (n : Notices) :
    s.KeepsLaws { s with store := { s.store with image := im, saving := none, outcome := o }, notices := n } where
  order law := law.of_order rfl
  store _ := ⟨fun saving => (by cases saving), fun _ => rfl⟩
  mark law := law
  marked law := (State.markedLaw_iff _).2 ((State.markedLaw_iff s).1 law)

/-- Every operation keeps the laws. -/
theorem State.Acts.keepsLaws {s t : State} (h : s.Acts t) : s.KeepsLaws t := by
  have lone (i : Ch) {c : Chan} (same : s.chans[i].Alike c) : s.Alike (s.setChan i c) := .setChan s i same
  cases h with
  | elapsed | linked | powered | noticed => exact State.Alike.keepsLaws (.of_others rfl rfl rfl rfl rfl)
  | served awake answer => exact answer.keepsLaws awake
  | resetBy src => exact s.resetBy_keepsLaws src
  | lapsed => exact s.lapse_keepsLaws
  | scanBegun => exact s.beginScan_alike.keepsLaws
  | dozeEnded => exact s.exitDoze_alike.keepsLaws
  | dozeTested => exact (State.Alike.ite s.enterDoze_alike (.refl s)).keepsLaws
  | scanned f smp => exact (s.scanned_alike f smp).keepsLaws
  | faulted => exact .ite (.resolve (.refl s)) (.refl s)
  | estimated r => exact s.estimated_keepsLaws r
  | controlled r => exact s.controlled_keepsLaws r
  | sourceChanged => exact s.sourceChanged_keepsLaws
  | takenUp r p source adr br _ loads => exact s.takesUp_keepsLaws r p source adr br loads
  | retried i => exact (lone i (c := s.chans[i].toNormal) ⟨rfl, rfl, rfl, rfl, rfl⟩).keepsLaws.settleOutputs _
  | ranWell i =>
    exact (lone i (c := { s.chans[i] with retries := 0, goodRun := none }) ⟨rfl, rfl, rfl, rfl, rfl⟩).keepsLaws
  | blankingEnded i => exact (lone i (c := { s.chans[i] with blankEnd := none }) ⟨rfl, rfl, rfl, rfl, rfl⟩).keepsLaws
  | runLockEnded i => exact (lone i (c := { s.chans[i] with runLock := none }) ⟨rfl, rfl, rfl, rfl, rfl⟩).resolve
  | restLockEnded i => exact (lone i (c := { s.chans[i] with restLock := none }) ⟨rfl, rfl, rfl, rfl, rfl⟩).derive.resolve
  | reconsidered => exact .resolve (.refl s)
  | holdExpired i =>
    refine State.Alike.resolve (.report ?_ _ _)
    exact .of_others rfl rfl rfl rfl rfl
  | saveEnded im o n => exact s.saveEnded_keepsLaws im o n

end

/-! ### Every step -/

/-- Settles O4: each operation of a command keeps both laws (`State.Acts.keepsLaws`): the order changes only by MOVE, by
LOAD_DEFAULTS and by a load of the profile, and the store only by SAVE, by its end and by a reset. -/
theorem everyStepKeepsTheOrderAndTheStoreLaw : Obligations.EveryStepKeepsTheOrderAndTheStoreLaw := fun s t h =>
  ⟨step_keeps (fun _ _ act => act.keepsLaws.order) (fun _ _ law => law) s t h,
    step_keeps (fun _ _ act => act.keepsLaws.store) (fun _ _ law => law.of_store rfl rfl) s t h⟩

/-- Settles O7: each operation of a command keeps the law (`State.Acts.keepsLaws`): marks are set only on channels that the
Sequencer may shed, and go with the demand, the fitting and the class that they rest on. -/
theorem everyStepKeepsTheMarkLaw : Obligations.EveryStepKeepsTheMarkLaw := fun s t law h =>
  step_keeps (fun _ _ act => act.keepsLaws.mark) (fun _ _ law => law) s t h law

/-- Settles O14: each operation of a command keeps the law (`State.Acts.keepsLaws`), since every change of what must be marked
ends in a reconsideration, after which it is marked (`State.reconsider_dueMarked`). -/
theorem everyStepKeepsTheMarkedLaw : Obligations.EveryStepKeepsTheMarkedLaw := fun s t law h =>
  step_keeps (fun _ _ act => act.keepsLaws.marked) (fun s _ law => (State.markedLaw_iff _).2 ((State.markedLaw_iff s).1 law))
    s t h law

end Sys2Proof.Machine
end

section
/-! PROOFS. The shed on arrival of a channel whose demand SWITCH ON changes to ON. -/

namespace Sys2Proof.Machine

/-! ### The mark of an arrival (R96, R97, R110) -/

/-- At depth 1 to 4 the must-shed set holds a SHEDDABLE channel of a tier within the depth that no hold keeps (R96). -/
theorem State.mustShed_tier {s : State} {i : Ch} (may : s.chans[i].Sheddable) (cls : s.chans[i].cfg.cls = .sheddable)
    (free : s.held i = false) (low : 1 ≤ s.tiers.depth) (high : s.tiers.depth ≤ 4)
    (tier : s.chans[i].cfg.shedTier ≤ s.tiers.depth) : s.mustShed i = true := by
  obtain ⟨fitted, demand, force, -⟩ := may
  simp only [State.mustShed, fitted, demand, force, cls, free]
  simp only [low, high, tier, decide_true, Bool.not_false, Bool.true_and, Bool.or_true]

theorem State.arrivalMark_must {s : State} {i : Ch} (unmarked : s.chans[i].mark = none) (must : s.mustShed i = true) :
    s.arrivalMark i = some s.shedMark := by
  rw [State.arrivalMark, unmarked, must]; rfl

theorem State.shedMark_of_tiers {s t : State} (h : t.tiers = s.tiers) : t.shedMark = s.shedMark := by
  simp only [State.shedMark, State.confirming, h]

/-- The mark at depth 1 to 4 is SHED_Tn with the confirming value of tier n (R97). -/
theorem State.shedMark_tier {s : State} {x : Nat} (d : Fin 4) (depth : s.tiers.depth = d.val + 1)
    (conf : s.tiers.recs[d.val].conf = some x) : s.shedMark = ⟨.shed (d.val + 1), x⟩ := by
  have below : s.tiers.depth ≠ 5 := by have := d.isLt; omega
  have value : s.confirming = x := by
    simp only [State.confirming, depth]
    fin_cases d <;> exact Option.getD_eq_iff.2 (.inl conf)
  rw [State.shedMark, if_neg below, value, depth]

/-- The mark at depth 5 is CUTOFF with the cutoff's confirming value (R97). -/
theorem State.shedMark_cutoff {s : State} {x : Nat} (depth : s.tiers.depth = 5) (conf : s.tiers.recs[4].conf = some x) :
    s.shedMark = ⟨.cutoff, x⟩ := by
  have value : s.confirming = x := by simp only [State.confirming, depth, conf, Option.getD_some]
  rw [State.shedMark, if_pos depth, value]

/-! ### A channel that arrives in the must-shed set (R110) -/

theorem Chan.unwanted_of_marked {c : Chan} (unforced : c.force = .none) (marked : c.mark.isSome = true) :
    c.wanted = false := by
  rw [← Option.isNone_eq_false_iff] at marked
  simp [Chan.wanted, unforced, marked]

theorem State.demandOn_tiers (s : State) (set : Ch → Bool) : (s.demandOn set).tiers = s.tiers := by simp [State.demandOn]

theorem State.demandOn_held (s : State) (set : Ch → Bool) (i : Ch) : (s.demandOn set).held i = s.held i := by
  simp [State.demandOn, State.held]

theorem State.demandOn_seq (s : State) (set : Ch → Bool) : (s.demandOn set).seq = s.seq := by simp [State.demandOn]

/-- It is marked before the Sequencer reconsiders, which then leaves it, and its output stays off (R102, R105, R110). -/
theorem State.switchOn_marked (s : State) (set : Nat) (i : Ch) (named : s.effective set i = true)
    (off : s.chans[i].demand = false) (unmarked : s.chans[i].mark = none) (low : s.chans[i].out = false)
    (must : (s.demandOn (s.effective set)).mustShed i = true) :
    (s.switchOn set).chans[i] = { s.chans[i] with demand := true, mark := some s.shedMark } := by
  have arrives : (s.effective set i && !s.chans[i].demand) = true := by rw [named, off]; rfl
  have any : (channels.any fun i => s.effective set i && !s.chans[i].demand) = true :=
    List.any_eq_true.2 ⟨i, List.mem_finRange i, arrives⟩
  rw [State.switchOn_eq, if_pos any]
  generalize hw : (s.demandOn (s.effective set)).markEach _ = w
  have mark : (s.demandOn (s.effective set)).arrivalMark i = some s.shedMark := by
    rw [State.arrivalMark_must _ must, State.shedMark_of_tiers (s := s) (s.demandOn_tiers _)]
    simp only [State.demandOn_get]; exact unmarked
  have chan : w.chans[i] = { s.chans[i] with demand := true, mark := some s.shedMark } := by
    rw [← hw, State.markEach_get, if_pos arrives, mark]
    simp only [State.demandOn_get, named, Bool.or_true]
  have must' : w.mustShed i = true := by rw [← hw, (State.markEach_moves _ _).mustShed]; exact must
  obtain ⟨-, -, unforced, -⟩ := State.sheddable_of_mustShed must'
  have marked : w.chans[i].mark.isSome = true := by rw [chan]; rfl
  have law : w.chans[i].law = w.chans[i].out := by
    rw [Chan.law_of_unwanted (Chan.unwanted_of_marked unforced marked), chan]; exact low.symm
  rw [State.resolve_held w i marked must' law, chan]

/-! ### The last step time at depth 5 (R101, R108) -/

/-- At depth 5, with all marked that may be shed and no other, the Sequencer has nothing to do. -/
structure State.CutOff (s : State) : Prop where
  depth : s.tiers.depth = 5
  law : s.MarkLaw
  due : s.DueMarked

theorem State.CutOff.no_restore {s : State} (h : s.CutOff) (i : Ch) : s.restoreCandidate i = false := by
  refine eq_false_of_ne_true fun restore => ?_
  simp only [State.restoreCandidate, Bool.and_eq_true, decide_eq_true_eq, Bool.not_eq_true'] at restore
  obtain ⟨⟨⟨⟨marked, fitted⟩, demand⟩, force⟩, spared⟩ := restore
  obtain ⟨-, -, cls⟩ := h.law i marked
  rw [(State.mustShed_five h.depth i).2 ⟨fitted, demand, force, cls⟩] at spared; cases spared

theorem State.CutOff.markSettle {s : State} (h : s.CutOff) : s.markSettle.CutOff where
  depth := by rw [s.markSettle_moves.tiers]; exact h.depth
  law := h.law.markSettle
  due _ i may := State.markSettle_marked (h.due (.inr h.depth) i ((s.markSettle_moves.chans i).sheddable.1 may))

theorem State.CutOff.derive {s : State} (h : s.CutOff) : s.derive.CutOff :=
  have alike := (State.Alike.refl s).derive
  ⟨by rw [alike.depth]; exact h.depth, alike.keepsLaws.mark h.law, alike.dueMarked h.due⟩

theorem State.CutOff.reconsider {s : State} (h : s.CutOff) : s.reconsider.CutOff :=
  ⟨by rw [s.reconsider_moves.tiers]; exact h.depth, h.law.reconsider, s.reconsider_dueMarked⟩

/-- No step is then taken, by which the last step time would be set (R101, R102, R105, R108). -/
theorem State.CutOff.reconsider_lastStep {s : State} (h : s.CutOff) : s.reconsider.seq.lastStep = s.seq.lastStep := by
  have shed : s.markSettle.shedChoice = none := by simp [State.shedChoice, h.markSettle.depth]
  have restore : s.markSettle.restoreChoice = none := by simp [State.restoreChoice, h.markSettle.no_restore]
  have step : s.markSettle.takeStep = s.markSettle := by rw [State.takeStep, shed, restore]
  have marking : s.markSettle.seq.lastStep = s.seq.lastStep := by
    unfold State.markSettle; split
    · rw [State.markEach_seq]
    · rfl
  simp only [State.reconsider, h.due.massShed, step]
  exact marking

theorem State.CutOff.settleOutputs_lastStep {s : State} (h : s.CutOff) (n : Nat) :
    (s.settleOutputs n).seq.lastStep = s.seq.lastStep := by
  induction n generalizing s with
  | zero => rw [State.settleOutputs, State.derive_seq]
  | succ n ih =>
    unfold State.settleOutputs; split
    · rfl
    · rw [ih h.derive.reconsider, h.derive.reconsider_lastStep, State.derive_seq]

theorem State.CutOff.resolve_lastStep {s : State} (h : s.CutOff) : s.resolve.seq.lastStep = s.seq.lastStep := by
  rw [State.resolve, h.reconsider.settleOutputs_lastStep, h.reconsider_lastStep]

/-- The arrivals of a SWITCH ON at depth 5 are marked, as the others already were (R110). -/
theorem State.CutOff.switchOn_lastStep {s : State} (h : s.CutOff) (set : Nat) :
    (s.switchOn set).seq.lastStep = s.seq.lastStep := by
  let t := s.demandOn (s.effective set)
  have depth : t.tiers.depth = 5 := by rw [s.demandOn_tiers]; exact h.depth
  rw [State.switchOn_eq]
  split
  · rw [State.CutOff.resolve_lastStep, State.markEach_seq, s.demandOn_seq]
    refine ⟨depth, (s.arrived_prepares _ _).mark h.law, fun _ i may => ?_⟩
    have may' : t.chans[i].Sheddable := (((State.markEach_moves t _).chans i).sheddable).1 may
    have same : t.chans[i].mark = s.chans[i].mark := by simp only [t, State.demandOn_get]
    rw [State.markEach_marked, same]
    by_cases arrives : (s.effective set i && !s.chans[i].demand) = true
    · cases marked : s.chans[i].mark with
      | some m => rfl
      | none =>
        rw [if_pos arrives, State.arrivalMark_must (same.trans marked) ((State.mustShed_five depth i).2 may')]; rfl
    · simp only [t, State.demandOn_get] at may'
      rw [Chan.demand_or] at may'
      · rw [h.due (.inr h.depth) i may']; rfl
      · intro named
        simpa [named] using arrives
  · rw [s.demandOn_seq]

/-- Settles O26: a channel that arrives in the must-shed set is marked before the Sequencer reconsiders and is then left
(`State.switchOn_marked`); at depth 5 the Sequencer has nothing else to do (`State.CutOff.switchOn_lastStep`). -/
theorem switchOnShedsOnArrival : Obligations.SwitchOnShedsOnArrival := by
  intro dt x tag a b c s i hears named _ fitted off force unmarked low marked
  have runs := State.request_answered s dt 0x10 tag [a, b, c, 1] ansSwitch hears (by decide)
    (ansSwitch_on a.toNat b.toNat c.toNat _)
  simp only [State.accept] at runs
  generalize be24 a.toNat b.toNat c.toNat = set at named runs
  have taken : (s.taken dt).chans[i] = s.chans[i] := by simp only [State.taken_chans]
  have tiers := ((s.taken dt).demandOn_tiers ((s.taken dt).effective set)).trans (s.taken_tiers dt)
  have effective : (s.taken dt).effective set i = true := by rw [State.effective_taken]; simp only [named, fitted]; rfl
  have moves := (s.taken dt).switchOn_moves set
  have mark := (s.taken dt).switchOn_marked set i effective (by rw [taken]; exact off) (by rw [taken]; exact unmarked)
    (by rw [taken]; exact low)
  rw [State.shedMark_of_tiers (s.taken_tiers dt), taken] at mark
  have may : s.chans[i].cfg.cls ≠ .exempt →
      ((s.taken dt).demandOn ((s.taken dt).effective set)).chans[i].Sheddable := by
    simp only [State.demandOn_get, taken, effective]
    exact fun cls => ⟨fitted, Bool.or_true _, force, cls⟩
  have cfg : ((s.taken dt).demandOn ((s.taken dt).effective set)).chans[i].cfg = s.chans[i].cfg := by
    simp only [State.demandOn_get, taken]
  have shed (must : ((s.taken dt).demandOn ((s.taken dt).effective set)).mustShed i = true) (k : Nat) (st : Status)
      (p : List Byte) : marked s.shedMark (((s.taken dt).switchOn set).answered k tag st p) := by
    refine ⟨?_, ?_, ?_, ?_, State.Spares.answered (.of_taken (dt := dt) ?_) _ _ _ _, ?_⟩
    · rw [State.answered_chans, mark must]
    · rw [State.answered_chans, mark must]
    · rw [State.answered_chans, mark must]; exact low
    · rw [State.answered_chans, mark must]
    · exact (State.mapChans_spares _ _).trans moves.spares
    · exact moves.holds.trans (s.taken_holds dt)
  constructor
  · intro d depth conf cls tier free
    have must : ((s.taken dt).demandOn ((s.taken dt).effective set)).mustShed i = true := by
      refine State.mustShed_tier (may (by rw [cls]; decide)) (by rw [cfg]; exact cls) ?_ ?_ ?_ ?_
      · rw [State.demandOn_held, State.taken_held]; exact free
      · rw [tiers, depth]; exact Nat.le_add_left 1 d.val
      · rw [tiers, depth]; exact d.isLt
      · rw [tiers, depth, cfg]; exact tier
    exact ⟨_, runs, State.shedMark_tier d depth conf ▸ shed must _ _ _⟩
  · intro law due depth conf cls
    have must := (State.mustShed_five (by rw [tiers]; exact depth) i).2 (may cls)
    have alike : s.Alike (s.taken dt) := .of_others (by simp) (by simp) (by simp) (by simp) (by simp)
    have cutOff : (s.taken dt).CutOff := ⟨by rw [s.taken_tiers]; exact depth, alike.keepsLaws.mark law,
      alike.dueMarked ((State.markedLaw_iff s).1 due hears.awake)⟩
    exact ⟨_, runs, State.shedMark_cutoff depth conf ▸ shed must _ _ _,
      (cutOff.switchOn_lastStep set).trans (by rw [State.taken_seq])⟩

end Sys2Proof.Machine
end

section
/-! PROOFS. PROFILE_WRITE to SEQUENCE, COUNTERS and DOZE. -/

namespace Sys2Proof.Machine

theorem State.whenIdle_granted (s : State) (a : Answer) (idle : s.isSaving = false) : s.whenIdle a = a := by
  simp [State.whenIdle, idle]

/-! ### SEQUENCE (R100, R113) -/

theorem State.setSequence_moves (s : State) (c : SequenceSettings) :
    State.Moves { s with seq := { s.seq with cfg := c } } (s.setSequence c) := by
  unfold State.setSequence; split
  · rename_i same
    rw [same]; exact .refl s
  · exact State.resolve_moves _

/-- A change of the settings by which the settle time has passed ends SETTLE (R113, R118). -/
theorem State.setSequence_leaves (s : State) (c : SequenceSettings) {from' : Nat} (changed : c ≠ s.seq.cfg)
    (start : s.seq.settleStart = some from') (passed : from' + c.settleTime * (100 * Config.unitsPerMs) ≤ s.now)
    (quiet : s.tiers.anyPending = false) : (s.setSequence c).seq.st ≠ .settle := by
  rw [State.setSequence, if_neg changed, State.resolve]
  refine State.settleOutputs_st _ _ (State.reconsider_leaves ?_ quiet)
  simp only [State.settlePassed, start]
  exact decide_eq_true passed

/-- The characters of three settings of two characters each are read as those settings (R100, R150). -/
theorem ansWriteSequence_field (s : State) (w : SequenceSettings) (install : s.power.install.deb = true)
    (idle : s.isSaving = false) (shed : w.shedSpacing < 65536) (restore : w.restoreSpacing < 65536)
    (settle : w.settleTime < 65536) : ansWriteSequence (w.field.map BitVec.toNat) s =
      (s.setSequence w.clamp).accept (clampedIf (decide ¬w.clamp = w)) w.clamp.field := by
  have read : w.field.map BitVec.toNat = [w.shedSpacing / 256 % 256, w.shedSpacing % 256, w.restoreSpacing / 256 % 256,
      w.restoreSpacing % 256, w.settleTime / 256 % 256, w.settleTime % 256] := by
    simp [SequenceSettings.field]
  rw [read]
  simp only [ansWriteSequence, be16_split _ shed, be16_split _ restore, be16_split _ settle]
  rw [State.whenInstaller_granted _ _ install idle]

/-! ### COUNTERS (R166) -/

theorem EventKind.ofCode_code (k : EventKind) : EventKind.ofCode k.code = k := by cases k <;> rfl

theorem EventKind.code_le (k : EventKind) : k.code ≤ 14 := by cases k <;> decide

/-- An entry of a kind up to 14 is stored with its kind and flags, and a qualifier outside the range of the kind as 0 (R166). -/
theorem RawEntry.stored_eq (kind : EventKind) (qualifier : Nat) (inhibit visible : Bool) :
    RawEntry.stored ⟨kind.code, qualifier, bitIf inhibit 1 + bitIf visible 2⟩ =
      ⟨kind, if qualifier ≤ kind.topQualifier then qualifier else 0, inhibit, visible⟩ := by
  have flags : (bitIf inhibit 1 + bitIf visible 2).testBit 0 = inhibit ∧
      (bitIf inhibit 1 + bitIf visible 2).testBit 1 = visible := by
    cases inhibit <;> cases visible <;> decide
  simp only [RawEntry.stored, Selector.clamp, EventKind.ofCode_code, flags]

/-- One new selector reaches its counter alone, and the counter keeps its value (R166). -/
theorem State.setSelectors_one (s : State) (j : Fin 8) (sel : Selector) : s.setSelectors (j.val + 1) [sel] =
    { s with tally := Vector.ofFn fun k : Fin 8 => if k = j then { s.tally[k] with sel := sel } else s.tally[k] } := by
  have counter (k : Fin 8) : { s.tally[k] with
      sel := if j.val + 1 ≤ k.val + 1 then ([sel][k.val + 1 - (j.val + 1)]?).getD s.tally[k].sel else s.tally[k].sel } =
      if k = j then { s.tally[k] with sel := sel } else s.tally[k] := by
    by_cases same : k = j
    · rw [if_pos same, same, if_pos le_rfl, Nat.sub_self]; rfl
    · rw [if_neg same]
      split
      · have past : k.val + 1 - (j.val + 1) ≠ 0 := by have := Fin.val_ne_of_ne same; omega
        rw [List.getElem?_eq_none (by simp; omega)]; rfl
      · rfl
  simp only [State.setSelectors, counter]

/-- An entry of COUNTERS is read as it is written (R166). -/
theorem ansWriteCounters_entry (s : State) (idle : s.isSaving = false) (j : Fin 8) (kind : EventKind) (qualifier : Nat)
    (inhibit visible : Bool) (range : qualifier < 256) (stored : Selector)
    (h : stored = ⟨kind, if qualifier ≤ kind.topQualifier then qualifier else 0, inhibit, visible⟩) :
    ansWriteCounters ((u8 (j.val + 1) ++ u8 kind.code ++ u8 qualifier ++ u8 (bitIf inhibit 1 + bitIf visible 2)).map
      BitVec.toNat) s = (s.setSelectors (j.val + 1) [stored]).accept (clampedIf (decide ¬stored.qualifier = qualifier))
        (u8 (j.val + 1) ++ stored.field) := by
  have number := j.isLt
  have code := kind.code_le
  have flags : bitIf inhibit 1 + bitIf visible 2 ≤ 3 := by cases inhibit <;> cases visible <;> decide
  have read : (u8 (j.val + 1) ++ u8 kind.code ++ u8 qualifier ++ u8 (bitIf inhibit 1 + bitIf visible 2)).map BitVec.toNat =
      [j.val + 1, kind.code, qualifier, bitIf inhibit 1 + bitIf visible 2] := by
    simp only [List.map_append, u8_map, List.cons_append, List.nil_append]
    rw [Nat.mod_eq_of_lt (by omega), Nat.mod_eq_of_lt (by omega), Nat.mod_eq_of_lt range, Nat.mod_eq_of_lt (by omega)]
  have entry := (RawEntry.stored_eq kind qualifier inhibit visible).trans h.symm
  have changed : RawEntry.changed ⟨kind.code, qualifier, bitIf inhibit 1 + bitIf visible 2⟩ =
      decide ¬stored.qualifier = qualifier := by
    simp [RawEntry.changed, entry, Nat.not_lt.2 code]
  rw [read]
  simp only [ansWriteCounters, parseEntries, Option.map_some, List.length_cons, List.length_nil, List.any_cons, List.any_nil,
    List.map_cons, List.map_nil, entry, changed, Bool.or_false, List.flatMap_cons, List.flatMap_nil, List.append_nil]
  rw [if_neg (by omega), if_neg (by simp; omega), State.whenIdle_granted _ _ idle]

/-! ### DOZE (R139) -/

theorem flagOf_bit (auto : Bool) : flagOf (bitIf auto 1) = some auto := by cases auto <;> rfl

/-- A delay of 0 is stored as 1 (R139). -/
theorem ansWriteDoze_field (s : State) (idle : s.isSaving = false) (auto : Bool) (delay : Byte) :
    ansWriteDoze ((u8 (bitIf auto 1) ++ [delay]).map BitVec.toNat) s =
      State.accept { s with power := { s.power with cfg := ⟨auto, max 1 delay.toNat⟩ } }
        (if delay = 0 then .clamped else .ok) (u8 (bitIf auto 1) ++ u8 (max 1 delay.toNat)) := by
  have read : (u8 (bitIf auto 1) ++ [delay]).map BitVec.toNat = [bitIf auto 1, delay.toNat] := by cases auto <;> rfl
  have stored : DozeSettings.clamp ⟨auto, delay.toNat⟩ = ⟨auto, max 1 delay.toNat⟩ := by
    have := delay.isLt
    simp only [DozeSettings.clamp, clampNat]; congr 1; omega
  have status : clampedIf (decide ((⟨auto, max 1 delay.toNat⟩ : DozeSettings) ≠ ⟨auto, delay.toNat⟩)) =
      if delay = 0 then .clamped else .ok := by
    have zero : delay.toNat = 0 ↔ delay = 0 := by rw [← BitVec.toNat_inj]; rfl
    by_cases h : delay = 0
    · rw [h]; simp [clampedIf]
    · have := mt zero.1 h
      rw [if_neg h, max_eq_right (by omega)]; simp [clampedIf]
  rw [read]
  simp only [ansWriteDoze, flagOf_bit, stored, status, DozeSettings.field]
  rw [State.whenIdle_granted _ _ idle]

/-- Settles O37: each section's characters are read as the settings written (`ansWriteSequence_field`,
`ansWriteCounters_entry`, `ansWriteDoze_field`); new SEQUENCE settings change nothing but what the Sequencer moves
(`State.setSequence_moves`), and it leaves SETTLE when its time has passed (`State.setSequence_leaves`). -/
theorem sequenceCountersAndDozeAreWritten : Obligations.SequenceCountersAndDozeAreWritten := by
  intro dt tag s hears idle
  have idle' : (s.taken dt).isSaving = false := by rw [State.taken_isSaving]; exact idle
  refine ⟨?_, ?_, fun auto delay => ?_⟩
  · intro w install shed restore settle c
    have runs := State.request_answered s dt 0x31 tag w.field ansWriteSequence hears (by decide)
      (ansWriteSequence_field _ w (by rw [State.taken_power]; exact install) idle' shed restore settle)
    have moves := (s.taken dt).setSequence_moves w.clamp
    have leaves (from' : Nat) := (s.taken dt).setSequence_leaves w.clamp (from' := from')
    rw [State.taken_seq, State.taken_now, State.taken_tiers] at leaves
    rw [clampedIf_eq] at runs
    refine ⟨_, runs, ?_, ?_, fun i => ?_, ?_, fun from' changed start passed quiet => ?_, State.answered_replies _ _ _ _ _⟩
    · rw [State.accept_state, State.answered_seq]; exact moves.seqCfg
    · rw [State.accept_state, State.answered_holds]; exact moves.holds.trans (s.taken_holds dt)
    · rw [State.accept_state, State.answered_chans]
      have chan := (moves.chans i).keeps
      simpa only [State.taken_chans] using chan
    · exact State.Spares.answered (.of_taken (dt := dt) moves.spares) _ _ _ _
    · rw [State.accept_state, State.answered_seq]
      refine leaves from' changed start passed (eq_false_of_ne_true fun pending => ?_)
      obtain ⟨k, hk⟩ := (TierMonitor.anyPending_iff _).1 pending
      exact quiet k hk
  · intro j kind qualifier inhibit visible range stored
    have runs := State.request_answered s dt 0x31 tag _ ansWriteCounters hears (by decide)
      (ansWriteCounters_entry _ idle' j kind qualifier inhibit visible range stored rfl)
    rw [clampedIf_eq, State.setSelectors_one, State.taken_tally] at runs
    exact runs
  · have runs := State.request_answered s dt 0x31 tag _ ansWriteDoze hears (by decide)
      (ansWriteDoze_field _ idle' auto delay)
    rw [State.taken_power] at runs
    exact runs

end Sys2Proof.Machine
end

section
/-! PROOFS. MOVE: the place of its channel, the order of the others, and that it changes nothing else where nothing was due. -/

namespace Sys2Proof.Machine

/-! ### The moved list (R94) -/

/-- A MOVE permutes the list (R93, R94). -/
theorem moveTo_perm {order : List Ch} {i : Ch} (once : order.count i = 1) (q : Nat) : (moveTo order i q).Perm order :=
  List.perm_iff_count.2 fun j => moveTo_count order i q j once

theorem moveTo_filter (order : List Ch) (i : Ch) (q : Nat) :
    (moveTo order i q).filter (fun j => decide (j ≠ i)) = order.filter fun j => decide (j ≠ i) := by
  have others := List.take_append_drop (q - 1) (order.filter fun j => decide (j ≠ i))
  rw [moveTo, List.filter_append, List.filter_cons_of_neg (by simp), ← List.filter_append, others, List.filter_filter]
  simp

/-- The channel stands at the position given, which the others leave room for (R94). -/
theorem moveTo_place {order : List Ch} {i : Ch} {q : Nat} (once : order.count i = 1) (low : 1 ≤ q)
    (high : q ≤ order.length) : (moveTo order i q)[q - 1]? = some i := by
  have length := (moveTo_perm once q).length_eq
  have before : ((order.filter fun j => decide (j ≠ i)).take (q - 1)).length = q - 1 := by
    simp only [moveTo, List.length_append, List.length_cons, List.length_take, List.length_drop] at length ⊢
    omega
  rw [moveTo, List.getElem?_append_right before.le, before, Nat.sub_self]; rfl

theorem State.OrderLaw.length {s : State} (h : s.OrderLaw) : s.seq.order.length = 24 := by
  have all : s.seq.order.Perm channels := List.perm_iff_count.2 fun i => by
    rw [h i]; exact (List.count_eq_one_of_mem (List.nodup_finRange 24) (List.mem_finRange i)).symm
  exact all.length_eq

/-! ### The part with another order and link (R94, R95) -/

/-- The part with another order and another state of the link, as MOVE finds it where nothing is due. -/
def State.placed (s : State) (order : List Ch) (l : Link) : State :=
  { s with seq := { s.seq with order := order }, link := l }

section
variable (s : State) (order : List Ch) (l : Link)

theorem State.massShed_placed : (s.placed order l).massShed = s.massShed.placed order l := by
  by_cases due : s.tiers.depth = 5 ∧ channels.any s.shedCandidate
  · rw [State.massShed, State.massShed, if_pos due]
    exact if_pos due
  · rw [State.massShed, State.massShed, if_neg due]
    exact if_neg due

theorem State.markSettle_placed : (s.placed order l).markSettle = s.markSettle.placed order l := by
  by_cases settle : s.seq.st = .settle
  · rw [State.markSettle, State.markSettle, if_pos settle]
    exact if_pos settle
  · rw [State.markSettle, State.markSettle, if_neg settle]
    exact if_neg settle

variable {s order}

/-- The choice of a step finds no channel in a list of the same channels when it found none before (R102, R105). -/
theorem State.shedChoice_placed (same : ∀ j, j ∈ order → j ∈ s.seq.order) (h : s.shedChoice = none) :
    (s.placed order l).shedChoice = none := by
  refine ite_eq_right_iff.2 fun due => List.find?_eq_none.2 fun j mem => ?_
  have none' := List.find?_eq_none.1 (ite_eq_right_iff.1 h due)
  exact none' j (List.mem_reverse.2 (same j (List.mem_reverse.1 mem)))

theorem State.restoreChoice_placed (same : ∀ j, j ∈ order → j ∈ s.seq.order) (h : s.restoreChoice = none) :
    (s.placed order l).restoreChoice = none := by
  refine ite_eq_right_iff.2 fun due => List.find?_eq_none.2 fun j mem => ?_
  exact List.find?_eq_none.1 (ite_eq_right_iff.1 h due) j (same j mem)

theorem State.takeStep_placed (same : ∀ j, j ∈ order → j ∈ s.seq.order) (shed : s.shedChoice = none)
    (restore : s.restoreChoice = none) : (s.placed order l).takeStep = s.takeStep.placed order l := by
  simp only [State.takeStep, State.shedChoice_placed l same shed, State.restoreChoice_placed l same restore, shed, restore]

end

/-! ### Where nothing was due (R117) -/

/-- A step changes the mark of the channel that it takes (R102, R105). -/
theorem State.no_choice {s : State} (h : ∀ i : Ch, s.takeStep.chans[i] = s.chans[i]) :
    s.shedChoice = none ∧ s.restoreChoice = none := by
  have noShed : s.shedChoice = none := by
    by_contra some'
    obtain ⟨i, choice⟩ := Option.ne_none_iff_exists'.1 some'
    have marked : s.takeStep.chans[i].mark.isSome = true := by
      rw [State.takeStep_shed choice, State.shedStep_get, if_pos rfl]; rfl
    rw [h i] at marked
    have candidate := (State.shedChoice_candidate choice).1
    rw [s.shedCandidate_marked i marked] at candidate; cases candidate
  refine ⟨noShed, ?_⟩
  by_contra some'
  obtain ⟨i, choice⟩ := Option.ne_none_iff_exists'.1 some'
  have step : s.takeStep = s.restoreStep i := by simp only [State.takeStep, noShed, choice]
  have unmarked : s.takeStep.chans[i].mark = none := by rw [step, State.restoreStep_get, if_pos rfl]
  rw [h i] at unmarked
  have candidate := (State.restoreChoice_candidate choice).1
  simp only [State.restoreCandidate, unmarked, Option.isSome_none, Bool.false_and] at candidate
  cases candidate

/-- Where a reconsideration changes nothing, it changes nothing under another order of the same channels. -/
theorem State.reconsider_placed {s : State} {order : List Ch} (l : Link) (fixed : s.reconsider = s)
    (same : ∀ j, j ∈ order → j ∈ s.seq.order) : (s.placed order l).reconsider = s.placed order l := by
  have due : s.DueMarked := by rw [← fixed]; exact s.reconsider_dueMarked
  have stands (i : Ch) : s.markSettle.takeStep.chans[i] = s.markSettle.chans[i] := by
    have stepped : s.reconsider.chans[i] = s.markSettle.takeStep.chans[i] := by simp only [State.reconsider, due.massShed]
    rw [← stepped, fixed, due.markSettle]
  obtain ⟨shed, restore⟩ := State.no_choice stands
  have same' (j : Ch) (mem : j ∈ order) : j ∈ s.markSettle.seq.order := by
    rw [s.markSettle_moves.order]; exact same j mem
  have moved : (s.placed order l).reconsider = s.reconsider.placed order l := by
    simp only [State.reconsider, State.massShed_placed, State.markSettle_placed, due.massShed,
      State.takeStep_placed l same' shed restore]
    rfl
  rw [moved, fixed]

/-- There a new order of the same channels brings nothing else (R95). -/
theorem State.setOrder_placed {s : State} {order : List Ch} (lawful : s.lawful = true) (fixed : s.reconsider = s)
    (same : ∀ j, j ∈ order → j ∈ s.seq.order) (l : Link) :
    State.setOrder { s with link := l } order = s.placed order l := by
  unfold State.setOrder; split
  · rename_i kept
    rw [State.placed, kept]
  · have resolved : (s.placed order l).resolve = s.placed order l := by
      rw [State.resolve, State.reconsider_placed l fixed same]
      exact if_pos lawful
    exact resolved

theorem State.setOrder_moves (s : State) (order : List Ch) :
    State.Moves { s with seq := { s.seq with order := order } } (s.setOrder order) := by
  unfold State.setOrder; split
  · rename_i same
    rw [same]; exact .refl s
  · exact State.resolve_moves _

theorem ansMove_number (s : State) (idle : s.isSaving = false) (i : Ch) (q : Byte) :
    ansMove ((u8 (i.val + 1) ++ [q]).map BitVec.toNat) s =
      State.accept (s.setOrder (moveTo s.seq.order i (clampNat 1 24 q.toNat)))
        (clampedIf (decide ¬clampNat 1 24 q.toNat = q.toNat))
        (u8 (i.val + 1) ++ u8 (clampNat 1 24 q.toNat) ++
          (s.setOrder (moveTo s.seq.order i (clampNat 1 24 q.toNat))).seq.order.flatMap fun j => u8 (j.val + 1)) := by
  rw [List.map_append, u8_number]
  simp only [ansMove, List.map_cons, List.map_nil, List.cons_append, List.nil_append, channelOf_number]
  rw [State.whenIdle_granted _ _ idle]; rfl

/-- Settles O38: the moved list is a permutation with the channel in its place (`moveTo_perm`, `moveTo_place`), which the
Sequencer keeps (`State.setOrder_moves`), and where a reconsideration changes nothing it changes nothing under the new order
(`State.setOrder_placed`). -/
theorem movePlacesTheChannel : Obligations.MovePlacesTheChannel := by
  intro dt tag q s i hears order idle place
  have runs := State.request_answered s dt 0x32 tag _ ansMove hears (by decide)
    (ansMove_number (s.taken dt) (by rw [State.taken_isSaving]; exact idle) i q)
  have moves := (s.taken dt).setOrder_moves (moveTo s.seq.order i place)
  have perm := moveTo_perm (order i) place
  have low : 1 ≤ place := by simp only [place, clampNat]; omega
  have high : place ≤ 24 := by simp only [place, clampNat]; omega
  have frame (law : s.OutputLaw) (fixed : (s.elapse dt).reconsider = s.elapse dt) :
      (s.taken dt).setOrder (moveTo s.seq.order i place) =
        (s.elapse dt).placed (moveTo s.seq.order i place) (s.taken dt).link :=
    State.setOrder_placed (s := s.elapse dt) (State.lawful_taken hears law dt) fixed (fun j => perm.mem_iff.1) _
  rw [clampedIf_eq, State.taken_seq] at runs
  have list : ((s.taken dt).setOrder (moveTo s.seq.order i place)).seq.order = moveTo s.seq.order i place := moves.order
  have kept (j : Ch) := (moves.chans j).keeps
  simp only [State.taken_chans] at kept
  refine ⟨_, runs, ?_, ?_, ?_, ?_, moves.holds.trans (s.taken_holds dt), ?_, fun law fixed => ?_,
    State.answered_replies _ _ _ _ _⟩
  · rw [State.accept_state, State.answered_seq, list]
    exact moveTo_place (order i) low (by rw [State.OrderLaw.length order]; exact high)
  · rw [State.accept_state, State.answered_seq, list, moveTo_filter]
  · rw [State.accept_state, State.answered_seq, list, perm.length_eq, State.OrderLaw.length order]
  · rw [State.accept_state, State.answered_chans]; exact kept
  · rw [State.accept_state, State.answered_seq, list]
    exact State.Spares.answered (.of_taken (dt := dt) moves.spares) _ _ _ _
  · rw [State.accept_state, State.answered_seq, list, frame law fixed]
    rfl

end Sys2Proof.Machine
end

section
/-! PROOFS. The hold list through every operation, and so through every step. -/

namespace Sys2Proof.Machine

/-! ### The channels that entries stand on (R121) -/

/-- A channel on which a hold entry may stand: fitted, SHEDDABLE and with demand ON (R121). -/
def Chan.Holdable (c : Chan) : Prop := c.cfg.fitted = true ∧ c.cfg.cls = .sheddable ∧ c.demand = true

theorem Chan.Alike.holdable {c d : Chan} (h : c.Alike d) (may : c.Holdable) : d.Holdable := by
  rw [Chan.Holdable, h.fitted, h.cls, h.demand]; exact may

theorem Chan.Moves.holdable {c d : Chan} (h : c.Moves d) (may : c.Holdable) : d.Holdable := by
  rw [Chan.Holdable, h.cfg, h.demand]; exact may

/-- New settings that keep the hold entry of a channel keep what it stands on (R69, R126). -/
theorem Chan.Holdable.write {c : Chan} (may : c.Holdable) {cfg : LoadSettings} (kept : c.cfg.dropsHold cfg = false) :
    (c.write cfg).Holdable := by
  obtain ⟨fitted, cls, demand⟩ := may
  simp only [LoadSettings.dropsHold, fitted, cls, Bool.true_and, decide_true, Bool.or_eq_false_iff, Bool.not_eq_false',
    decide_eq_false_iff_not, not_not] at kept
  obtain ⟨fitted', cls'⟩ := kept
  have stands : (c.write cfg).demand = c.demand := (Chan.write_stands (fitted.trans fitted'.symm)).1
  exact ⟨by rw [Chan.write_cfg]; exact fitted', by rw [Chan.write_cfg]; exact cls', stands.trans demand⟩

/-! ### What leaves entries or takes them away (R124 to R126) -/

/-- Entries are left as they stand or removed, and those that are left keep what they stand on. -/
structure State.SparesHolds (s t : State) : Prop where
  left : t.holds.Sublist s.holds
  now : s.now ≤ t.now
  chans : ∀ e ∈ t.holds, s.chans[e.ch].Holdable → t.chans[e.ch].Holdable

theorem State.HoldLaw.spared {s t : State} (law : s.HoldLaw) (h : s.SparesHolds t) : t.HoldLaw where
  few := h.left.length_le.trans law.few
  once := law.once.sublist (h.left.map _)
  ordered := law.ordered.sublist h.left
  past e entry := (law.past e (h.left.subset entry)).trans h.now
  loads e entry := h.chans e entry (law.loads e (h.left.subset entry))

namespace State.SparesHolds

theorem of_chans {s t : State} (holds : t.holds = s.holds) (now : t.now = s.now)
    (chans : ∀ i : Ch, s.chans[i].Holdable → t.chans[i].Holdable) : s.SparesHolds t :=
  ⟨by rw [holds], now.ge, fun e _ => chans e.ch⟩

/-- A change of other components than the channels. -/
theorem of_others {s t : State} (holds : t.holds = s.holds) (now : t.now = s.now) (chans : t.chans = s.chans) :
    s.SparesHolds t := of_chans holds now fun _ => by rw [chans]; exact id

theorem of_moves {s t : State} (h : s.Moves t) : s.SparesHolds t := of_chans h.holds h.now fun i => (h.chans i).holdable

theorem refl (s : State) : s.SparesHolds s := of_others rfl rfl rfl

theorem trans {s t u : State} (h : s.SparesHolds t) (k : t.SparesHolds u) : s.SparesHolds u :=
  ⟨k.left.trans h.left, h.now.trans k.now, fun e entry may => k.chans e entry (h.chans e (k.left.subset entry) may)⟩

theorem ite {s t u : State} {p : Prop} [Decidable p] (h : s.SparesHolds t) (k : s.SparesHolds u) :
    s.SparesHolds (if p then t else u) := by
  split
  · exact h
  · exact k

theorem resolve {s t : State} (h : s.SparesHolds t) : s.SparesHolds t.resolve := h.trans (of_moves t.resolve_moves)

theorem resolveOutputs {s t : State} (h : s.SparesHolds t) : s.SparesHolds t.resolveOutputs :=
  h.trans (of_moves t.resolveOutputs_moves)

theorem derive {s t : State} (h : s.SparesHolds t) : s.SparesHolds t.derive := h.trans (of_moves t.derive_moves)

theorem report {s t : State} (h : s.SparesHolds t) (k : EventKind) (l : List Nat) : s.SparesHolds (t.report k l) :=
  h.trans (of_moves (t.report_moves k l))

theorem setChan (s : State) (i : Ch) {c : Chan} (h : s.chans[i].Alike c) : s.SparesHolds (s.setChan i c) :=
  of_chans (by simp) (by simp) fun j => ((State.Alike.setChan s i h).chans j).holdable

end State.SparesHolds

section
variable (s : State)

theorem State.dropHolds_sparesHolds (p : Ch → Bool) : s.SparesHolds (s.dropHolds p) :=
  ⟨List.filter_sublist, le_rfl, fun _ _ => id⟩

/-! Requests (R66, R69, R76, R77, R126, R175). -/

theorem State.switchOn_sparesHolds (set : Nat) : s.SparesHolds (s.switchOn set) := by
  have on : s.SparesHolds (s.demandOn (s.effective set)) :=
    .of_chans (by simp [State.demandOn]) (by simp [State.demandOn]) fun i may => by
      obtain ⟨fitted, cls, demand⟩ := may
      rw [State.demandOn_get]
      exact ⟨fitted, cls, Bool.or_eq_true_iff.2 (.inl demand)⟩
  exact on.trans (.of_moves (s.switchOn_moves set))

/-- A channel whose demand goes OFF loses its entry with it (R77). -/
theorem State.demandOff_sparesHolds (set : Ch → Bool) : s.SparesHolds (s.demandOff set) where
  left := by simp only [State.demandOff, State.dropHolds, State.mapChans_holds]; exact List.filter_sublist
  now := by simp [State.demandOff]
  chans e entry may := by
    have stays : set e.ch = false := (State.mem_dropHolds _ set e).1 entry |>.2
    rw [State.demandOff_get, if_neg (ne_true_of_eq_false stays)]
    exact may

theorem State.writeLoads_sparesHolds (new : Ch → LoadSettings) : s.SparesHolds (s.writeLoads new) where
  left := by rw [State.writeLoads_holds]; exact List.filter_sublist
  now := by simp [State.writeLoads]
  chans e entry may := by
    rw [State.writeLoads_holds, List.mem_filter, Bool.not_eq_true'] at entry
    rw [State.writeLoads_get]
    exact may.write entry.2

theorem State.takeProfile_sparesHolds (p : Profile) : s.SparesHolds (s.takeProfile p) := by
  have written := s.writeLoads_sparesHolds fun i => p.loads[i]
  simp only [State.takeProfile]
  generalize (s.writeLoads fun i => p.loads[i]) = t at written ⊢
  exact written.trans (.of_others rfl rfl rfl)

theorem State.clearTrips_sparesHolds (set : Nat) : s.SparesHolds (s.clearTrips set) := by
  have chan (i : Ch) (may : s.chans[i].Holdable) : (s.cleared (s.effective set)).chans[i].Holdable := by
    rw [State.cleared_get]; split <;> exact may
  have cleared (n : Notices) : s.SparesHolds { s.cleared (s.effective set) with notices := n } :=
    .of_chans (by simp [State.cleared]) (by simp [State.cleared]) chan
  exact (cleared _).trans (.of_moves (s.clearTrips_moves set))

theorem State.setForce_sparesHolds (i : Ch) (f : Force) : s.SparesHolds (s.setForce i f) := by
  have forced : s.SparesHolds (s.setChan i { s.chans[i] with force := f }) := by
    refine .of_chans (by simp) (by simp) fun j may => ?_
    rw [State.setChan_get]; split
    · rename_i e; rw [e] at may; exact may
    · exact may
  exact .ite (.refl s) forced.resolve

/-! The other operations (R14, R132, R137, R142, R146). -/

theorem State.resetBy_sparesHolds (src : ResetSource) : s.SparesHolds (s.resetBy src) := by
  have started : s.SparesHolds s.startReset := .of_chans rfl rfl fun i may => by simp [State.startReset]; exact may
  exact (State.SparesHolds.ite (.refl s) started).trans (.of_others rfl rfl rfl)

theorem State.lapse_sparesHolds : s.SparesHolds s.lapse := by
  refine .ite (.resolve (.report (.of_chans (by simp) (by simp) fun i may => ?_) _ _)) (.refl s)
  rw [State.clearForces_get]; exact may

theorem State.beginScan_sparesHolds : s.SparesHolds s.beginScan :=
  .of_chans (by simp) (by simp) fun i => (s.beginScan_alike.chans i).holdable

theorem State.exitDoze_sparesHolds : s.SparesHolds s.exitDoze := by
  have left : s.SparesHolds { s with
      power := { s.power with st := .run, lastExit := s.now }, scanner := { s.scanner with timer := none } } :=
    .of_others rfl rfl rfl
  exact .ite (.ite (left.trans (State.beginScan_sparesHolds _)) left) (.refl s)

theorem State.enterDoze_sparesHolds : s.SparesHolds s.enterDoze := .of_others (by simp) (by simp) (by simp)

theorem State.scanned_sparesHolds (f : Scan) (smp : Samples) : s.SparesHolds (s.scanned f smp) := by
  simp only [State.scanned, State.reportIf]
  refine .report ?_ _ _
  exact .of_others rfl rfl rfl

theorem State.estimated_sparesHolds (r : ScanRecord) : s.SparesHolds (s.estimated r).1 := by
  have formed (q : Sequencer) : s.SparesHolds { s with est := (s.est.complete r).est, seq := q } := .of_others rfl rfl rfl
  have evaluated (u : State) : u.SparesHolds (u.evaluateTiers r).1 := by
    simp only [State.evaluateTiers, State.reportIf]
    refine .report (.report ?_ _ _) _ _
    exact .of_others rfl rfl rfl
  have reported (q : Sequencer) := ((formed q).report .restCorrection (if (s.est.complete r).restEvent then [0] else [])).report
    .fullResync (if (s.est.complete r).fullEvent then [0] else [])
  simp only [State.estimated, State.reportIf]; split
  · have after (q : Sequencer) := (reported q).trans (evaluated _)
    exact .ite (after _).resolve (after _)
  · exact reported _

theorem State.controlled_sparesHolds (r : ScanRecord) : s.SparesHolds (s.controlled r).1 := by
  have treated (u : State) (holds : u.holds = s.holds) (now : u.now = s.now)
      (chans : ∀ i : Ch, u.chans[i] = (s.chans[i].treat s.now r.currents[i] r.power.factor).chan) : s.SparesHolds u :=
    .of_chans holds now fun i may => by rw [chans]; exact (Chan.treat_alike _ _ _ _).holdable may
  simp only [State.controlled]
  refine .ite (treated _ ?_ ?_ fun i => ?_).resolve (treated _ ?_ ?_ fun i => ?_) <;> simp

theorem State.sourceChanged_sparesHolds : s.SparesHolds s.sourceChanged := by
  have changed : s.SparesHolds { s with tiers := s.tiers.suppression s.sourcePresent } := .of_others rfl rfl rfl
  exact .ite changed.resolve changed

theorem State.takesUp_sparesHolds (r : ResetInfo) (p : Profile) (source : ProfileSource) (adr : BitVec 4) (br : BitVec 2) :
    s.SparesHolds (s.takesUp r p source adr br) where
  left := by rw [State.takesUp_holds]; exact List.nil_sublist _
  now := (s.takesUp_now r p source adr br).ge
  chans e entry := by rw [State.takesUp_holds] at entry; cases entry

/-! ### An entry is placed (R121, R122) -/

/-- An entry placed last of all into an ordered list stands behind those that expire no later (R121). -/
theorem placeHold_ordered {l : List HoldEntry} {e : HoldEntry} (ordered : l.Pairwise HoldEntry.before)
    (past : ∀ x ∈ l, x.placed ≤ e.placed) : (placeHold e l).Pairwise HoldEntry.before := by
  induction l with
  | nil => simp [placeHold]
  | cons x l ih =>
    obtain ⟨first, rest⟩ := List.pairwise_cons.1 ordered
    by_cases behind : x.expiry ≤ e.expiry
    · have placed : placeHold e (x :: l) = x :: placeHold e l := by simp [placeHold, behind]
      have before : x.before e := by
        have earlier := past x List.mem_cons_self
        simp only [HoldEntry.before]; omega
      rw [placed, List.pairwise_cons]
      refine ⟨fun y entry => ?_, ih rest fun y entry => past y (List.mem_cons_of_mem x entry)⟩
      rcases (mem_placeHold e y l).1 entry with rfl | entry
      · exact before
      · exact first y entry
    · have placed : placeHold e (x :: l) = e :: x :: l := by simp [placeHold, behind]
      rw [placed, List.pairwise_cons]
      refine ⟨fun y entry => .inl ?_, ordered⟩
      rcases List.mem_cons.1 entry with rfl | entry
      · exact Nat.lt_of_not_le behind
      · have later := first y entry
        simp only [HoldEntry.before] at later; omega

/-- The entries of the list after one is placed are the entry and the others, in some order. -/
theorem placeHold_perm (e : HoldEntry) (l : List HoldEntry) : (placeHold e l).Perm (e :: l) := by
  have parts := List.takeWhile_append_dropWhile (p := fun x => decide (x.expiry ≤ e.expiry)) (l := l)
  conv_rhs => rw [← parts]
  exact List.perm_middle

/-- The law of a list with one entry placed now for a channel that may be held and has none (R121). -/
theorem State.HoldLaw.place {s t : State} (law : s.HoldLaw) (i : Ch) (minutes : Nat)
    (holds : t.holds = placeHold (s.holdEntry i minutes) s.holds) (now : t.now = s.now) (chans : t.chans = s.chans)
    (room : s.holds.length < 4) (unheld : ∀ e ∈ s.holds, e.ch ≠ i) (may : s.chans[i].Holdable) : t.HoldLaw where
  few := by rw [holds, length_placeHold]; exact room
  once := by
    rw [holds, ((placeHold_perm _ _).map HoldEntry.ch).nodup_iff, List.map_cons, List.nodup_cons]
    refine ⟨fun entry => ?_, law.once⟩
    obtain ⟨e, entry, same⟩ := List.mem_map.1 entry
    exact unheld e entry same
  ordered := by rw [holds]; exact placeHold_ordered law.ordered law.past
  past e entry := by
    rw [holds, mem_placeHold] at entry
    rw [now]
    rcases entry with rfl | entry
    · exact le_rfl
    · exact law.past e entry
  loads e entry := by
    rw [holds, mem_placeHold] at entry
    rw [chans]
    rcases entry with rfl | entry
    · exact may
    · exact law.loads e entry

theorem State.held_iff (i : Ch) : s.held i = true ↔ ∃ e ∈ s.holds, e.ch = i := by simp [State.held]

theorem State.unheld_iff (i : Ch) : s.held i = false ↔ ∀ e ∈ s.holds, e.ch ≠ i := by simp [State.held]

/-- A new entry finds room, and its channel without an entry (R122). -/
theorem State.HoldLaw.placeNew {s : State} (law : s.HoldLaw) {i : Ch} (minutes : Nat) (may : s.chans[i].Holdable)
    (unheld : s.held i = false) (room : s.holds.length < 4) : (s.placeNew i minutes).HoldLaw :=
  have placed := law.place i minutes (t := { s with holds := placeHold (s.holdEntry i minutes) s.holds }) rfl rfl rfl room
    ((s.unheld_iff i).1 unheld) may
  placed.spared (.of_moves (State.resolve_moves _))

/-- A re-hold takes the channel's entry away, which makes the room for the one it places (R122). -/
theorem State.HoldLaw.rehold {s : State} (law : s.HoldLaw) {i : Ch} (minutes : Nat) (held : s.held i = true) :
    (s.rehold i minutes).HoldLaw := by
  obtain ⟨e, entry, same⟩ := (s.held_iff i).1 held
  have dropped := law.spared (s.dropHolds_sparesHolds fun j => decide (j = i))
  refine dropped.place i minutes rfl rfl rfl ?_ (fun x other => ?_) ?_
  · refine Nat.lt_of_lt_of_le (List.length_filter_lt_length_iff_exists.2 ⟨e, entry, ?_⟩) law.few
    simp [same]
  · simpa using ((State.mem_dropHolds s _ x).1 other).2
  · exact same ▸ law.loads e entry

/-! ### Every operation, and every step -/

variable {s}

/-- Every answer keeps the law: HOLD places an entry, and the others leave entries or take them away. -/
theorem State.Serves.holdLaw {t : State} (h : s.Serves t) (law : s.HoldLaw) : t.HoldLaw := by
  have others {u : State} (holds : u.holds = s.holds) (now : u.now = s.now) (chans : u.chans = s.chans) : u.HoldLaw :=
    law.spared (.of_others holds now chans)
  have handed {u : State} (p : Prop) [Decidable p] (holds : u.holds = s.holds) (now : u.now = s.now)
      (chans : u.chans = s.chans) : State.HoldLaw (if p then u.resolve else u) :=
    have kept := State.SparesHolds.of_others holds now chans
    law.spared (.ite kept.resolve kept)
  have changed {u : State} (p : Prop) [Decidable p] (holds : u.holds = s.holds) (now : u.now = s.now)
      (chans : u.chans = s.chans) : State.HoldLaw (if p then s else u.resolve) :=
    law.spared (.ite (.refl s) (.resolve (.of_others holds now chans)))
  cases h with
  | nothing => exact law
  | demandOn set => exact law.spared (s.switchOn_sparesHolds set)
  | demandOff set => exact law.spared ((s.demandOff_sparesHolds _).trans (.of_moves (s.switchOff_moves set)))
  | reheld i minutes held => exact law.rehold minutes held
  | held i minutes fitted cls demand unheld room => exact law.placeNew minutes ⟨fitted, cls, demand⟩ unheld room
  | released i => exact law.spared (.ite (s.dropHolds_sparesHolds _).resolve (.refl s))
  | forced i f => exact law.spared (s.setForce_sparesHolds i f)
  | tripsCleared set => exact law.spared (s.clearTrips_sparesHolds set)
  | usageCleared set =>
    exact law.spared (.of_chans (by simp) (by simp) fun i => ((s.clearUsage_alike set).chans i).holdable)
  | acknowledged | masked | countersCleared | linkCountsCleared | batteryWritten | curveWritten | selectorsWritten
  | dozeWritten | charged | saving => exact others rfl rfl rfl
  | tierWritten => exact handed _ rfl rfl rfl
  | loadsWritten first ws => exact law.spared ((s.writeLoads_sparesHolds _).trans (.of_moves (s.setLoads_moves _)))
  | sequenceWritten | moved => exact changed _ rfl rfl rfl
  | defaults => exact law.spared (s.takeProfile_sparesHolds _).resolve
  | dozes => exact law.spared s.enterDoze_sparesHolds

/-- Every operation keeps the law of the hold list. -/
theorem State.Acts.holdLaw {t : State} (h : s.Acts t) (law : s.HoldLaw) : t.HoldLaw := by
  have lone (i : Ch) {c : Chan} (same : s.chans[i].Alike c) : s.SparesHolds (s.setChan i c) := .setChan s i same
  cases h with
  | elapsed dt => exact law.spared ⟨.refl _, Nat.le_add_right _ dt, fun _ _ => id⟩
  | linked | powered | noticed | saveEnded => exact law.spared (.of_others rfl rfl rfl)
  | served _ answer => exact answer.holdLaw law
  | resetBy src => exact law.spared (s.resetBy_sparesHolds src)
  | lapsed => exact law.spared s.lapse_sparesHolds
  | scanBegun => exact law.spared s.beginScan_sparesHolds
  | dozeEnded => exact law.spared s.exitDoze_sparesHolds
  | dozeTested => exact law.spared (.ite s.enterDoze_sparesHolds (.refl s))
  | scanned f smp => exact law.spared (s.scanned_sparesHolds f smp)
  | faulted => exact law.spared (.ite (.resolve (.refl s)) (.refl s))
  | estimated r => exact law.spared (s.estimated_sparesHolds r)
  | controlled r => exact law.spared (s.controlled_sparesHolds r)
  | sourceChanged => exact law.spared s.sourceChanged_sparesHolds
  | takenUp r p source adr br => exact law.spared (s.takesUp_sparesHolds r p source adr br)
  | retried i => exact law.spared (lone i (c := s.chans[i].toNormal) ⟨rfl, rfl, rfl, rfl, rfl⟩).resolveOutputs
  | ranWell i => exact law.spared (lone i (c := { s.chans[i] with retries := 0, goodRun := none }) ⟨rfl, rfl, rfl, rfl, rfl⟩)
  | blankingEnded i => exact law.spared (lone i (c := { s.chans[i] with blankEnd := none }) ⟨rfl, rfl, rfl, rfl, rfl⟩)
  | runLockEnded i =>
    exact law.spared (lone i (c := { s.chans[i] with runLock := none }) ⟨rfl, rfl, rfl, rfl, rfl⟩).resolve
  | restLockEnded i =>
    exact law.spared (lone i (c := { s.chans[i] with restLock := none }) ⟨rfl, rfl, rfl, rfl, rfl⟩).derive.resolve
  | reconsidered => exact law.spared (.resolve (.refl s))
  | holdExpired i =>
    refine law.spared (.resolve (.report ?_ _ _))
    exact (s.dropHolds_sparesHolds fun j => decide (j = i)).trans (.of_others rfl rfl rfl)

end

/-- Settles O8: each operation of a command keeps the law (`State.Acts.holdLaw`): HOLD places an entry in its order on a channel
that may be held (`State.HoldLaw.place`), and all else leaves entries with what they stand on or takes them away
(`State.SparesHolds`). -/
theorem everyStepKeepsTheHoldLaw : Obligations.EveryStepKeepsTheHoldLaw := fun s t law h =>
  step_keeps (fun _ _ act => act.holdLaw) (fun _ _ law => law.spared (.of_others rfl rfl rfl)) s t h law

end Sys2Proof.Machine
end

section
/-! PROOFS. What keeps the law of the forces: the operations of the part. -/

namespace Sys2Proof.Machine

/-! ### What a force rests on (R128) -/

/-- What a force rests on beside its channel: the part is outside a reset and in RUN, INSTALL is asserted, and the 5 s of link
quiet have not been handed over (R128). -/
structure State.Forceable (s : State) : Prop where
  awake : s.inReset = none
  running : s.power.st = .run
  install : s.power.install.deb = true
  unquiet : s.link.quietHanded = false

theorem State.Forceable.of_eq {s t : State} (inReset : t.inReset = s.inReset) (power : t.power = s.power)
    (link : t.link = s.link) (may : s.Forceable) : t.Forceable :=
  ⟨inReset.trans may.awake, by rw [power]; exact may.running, by rw [power]; exact may.install,
    by rw [link]; exact may.unquiet⟩

theorem State.forceLaw_iff (s : State) :
    s.ForceLaw ↔ ∀ i : Ch, s.chans[i].force ≠ .none → s.Forceable ∧ s.chans[i].cfg.fitted = true :=
  forall₂_congr fun _ _ =>
    ⟨fun ⟨awake, running, install, unquiet, fitted⟩ => ⟨⟨awake, running, install, unquiet⟩, fitted⟩,
      fun ⟨may, fitted⟩ => ⟨may.awake, may.running, may.install, may.unquiet, fitted⟩⟩

/-- A channel takes no force, and stays fitted under the force that it keeps. -/
def Chan.KeepsForce (c d : Chan) : Prop :=
  d.force ≠ .none → c.force ≠ .none ∧ (c.cfg.fitted = true → d.cfg.fitted = true)

theorem Chan.KeepsForce.of_eq {c d : Chan} (force : d.force = c.force) (fitted : d.cfg.fitted = c.cfg.fitted) :
    c.KeepsForce d := by
  rw [Chan.KeepsForce, force, fitted]; exact fun forced => ⟨forced, id⟩

/-- An unfitting takes the force of its channel (R69). -/
theorem Chan.write_keepsForce (c : Chan) (cfg : LoadSettings) : c.KeepsForce (c.write cfg) := by
  have written := c.write_cfg cfg
  simp only [Chan.KeepsForce, written]
  cases old : c.cfg.fitted with
  | false =>
    have force : (c.write cfg).force = c.force := by
      simp only [Chan.write, old, Bool.false_and, Bool.false_eq_true, if_false]
      split_ifs <;> rfl
    rw [force]; exact fun forced => ⟨forced, nofun⟩
  | true =>
    cases new : cfg.fitted with
    | false => rw [(Chan.write_unfit old new).2.2.1]; exact fun forced => absurd rfl forced
    | true =>
      obtain ⟨-, -, -, force⟩ := Chan.write_stands (old.trans new.symm)
      rw [force]; exact fun forced => ⟨forced, id⟩

/-! ### What keeps the law (R128) -/

/-- The law of the forces is kept. -/
def State.KeepsForces (s t : State) : Prop := s.ForceLaw → t.ForceLaw

namespace State.KeepsForces

theorem refl (s : State) : s.KeepsForces s := id

theorem trans {s t u : State} (h : s.KeepsForces t) (k : t.KeepsForces u) : s.KeepsForces u := k ∘ h

theorem ite {s t u : State} {p : Prop} [Decidable p] (h : p → s.KeepsForces t) (k : ¬p → s.KeepsForces u) :
    s.KeepsForces (if p then t else u) := by
  split
  · exact h ‹_›
  · exact k ‹_›

theorem of_chans {s t : State} (ground : s.Forceable → t.Forceable) (chans : ∀ i : Ch, s.chans[i].KeepsForce t.chans[i]) :
    s.KeepsForces t := by
  simp only [State.KeepsForces, State.forceLaw_iff]
  intro law i forced
  obtain ⟨before, stays⟩ := chans i forced
  obtain ⟨may, fitted⟩ := law i before
  exact ⟨ground may, stays fitted⟩

/-- A change of other components than the channels. -/
theorem of_others {s t : State} (ground : s.Forceable → t.Forceable) (chans : t.chans = s.chans) : s.KeepsForces t :=
  of_chans ground fun _ => by rw [chans]; exact .of_eq rfl rfl

theorem of_unforced {s t : State} (h : ∀ i : Ch, t.chans[i].force = .none) : s.KeepsForces t :=
  fun _ i forced => absurd (h i) forced

theorem of_moves {s t : State} (h : s.Moves t) : s.KeepsForces t :=
  of_chans (.of_eq h.inReset h.power h.link) fun i => .of_eq (h.chans i).force (by rw [(h.chans i).cfg])

theorem of_alike {s t : State} (h : s.Alike t) (ground : s.Forceable → t.Forceable) : s.KeepsForces t :=
  of_chans ground fun i => .of_eq (h.chans i).force (h.chans i).fitted

/-- What takes a record and runs the channels (R14). -/
theorem of_record {s t : State} (taken : s.TakesRecord t) (ran : s.Runs t) : s.KeepsForces t :=
  of_chans (.of_eq ran.inReset taken.power taken.link) fun i => .of_eq (taken.force i) (by rw [(ran.chans i).cfg])

theorem resolve {s t : State} (h : s.KeepsForces t) : s.KeepsForces t.resolve := h.trans (of_moves t.resolve_moves)

theorem resolveOutputs {s t : State} (h : s.KeepsForces t) : s.KeepsForces t.resolveOutputs :=
  h.trans (of_moves t.resolveOutputs_moves)

theorem derive {s t : State} (h : s.KeepsForces t) : s.KeepsForces t.derive := h.trans (of_moves t.derive_moves)

theorem report {s t : State} (h : s.KeepsForces t) (k : EventKind) (l : List Nat) : s.KeepsForces (t.report k l) :=
  h.trans (of_moves (t.report_moves k l))

theorem setChan (s : State) (i : Ch) {c : Chan} (h : s.chans[i].KeepsForce c) : s.KeepsForces (s.setChan i c) :=
  of_chans (.of_eq (by simp) (by simp) (by simp)) fun j => by
    rw [State.setChan_get]; split
    · rename_i e; rw [e]; exact h
    · exact .of_eq rfl rfl

end State.KeepsForces

section
variable (s : State)

/-! ### Lapses, resets and the power state (R132, R134, R137, R138) -/

/-- A lapse leaves no force (R132). -/
theorem State.lapse_unforced (i : Ch) : s.lapse.chans[i].force = .none := by
  unfold State.lapse; split
  · rw [((State.resolve_moves _).chans i).force, State.reportIf_chans, State.clearForces_get]
  · rename_i unforced
    exact (s.anyForce_eq_false).1 (eq_false_of_ne_true unforced) i

/-- A reset begins with every force NONE, and is prolonged without any (R134). -/
theorem State.resetBy_keepsForces (src : ResetSource) : s.KeepsForces (s.resetBy src) := by
  cases reset : s.inReset with
  | none => exact .of_unforced fun i => by simp [State.resetBy, reset, State.startReset]
  | some r =>
    rw [s.resetBy_again src r reset]
    exact .of_others (fun may => by have awake := may.awake; rw [reset] at awake; cases awake) rfl

theorem State.takesUp_keepsForces (r : ResetInfo) (p : Profile) (source : ProfileSource) (adr : BitVec 4) (br : BitVec 2) :
    s.KeepsForces (s.takesUp r p source adr br) :=
  .of_unforced fun i => by
    obtain ⟨-, -, -, -, -, -, force, -⟩ := s.takesUp_loads r p source adr br i
    exact force

theorem State.beginScan_keepsForces : s.KeepsForces s.beginScan :=
  .of_alike s.beginScan_alike (.of_eq (by simp) (by simp) (by simp))

/-- The part leaves DOZE for the RUN that a force rests on (R137). -/
theorem State.exitDoze_keepsForces : s.KeepsForces s.exitDoze := by
  have left : s.KeepsForces { s with
      power := { s.power with st := .run, lastExit := s.now }, scanner := { s.scanner with timer := none } } :=
    .of_others (fun may => ⟨may.awake, rfl, may.install, may.unquiet⟩) rfl
  exact .ite (fun _ => .ite (fun _ => left.trans (State.beginScan_keepsForces _)) fun _ => left) fun _ => .refl s

/-- DOZE is entered only where there is no force (R138, R140). -/
theorem State.enterDoze_keepsForces (unforced : s.anyForce = false) : s.KeepsForces s.enterDoze :=
  .of_unforced fun i => by rw [State.enterDoze_chans]; exact (s.anyForce_eq_false).1 unforced i

theorem State.dozeTest_keepsForces : s.KeepsForces s.dozeTest :=
  .ite (fun due => by
      obtain ⟨-, -, -, -, -, unforced, -⟩ := s.autoDozeDue_iff.1 due
      exact s.enterDoze_keepsForces ((s.anyForce_eq_false).2 unforced))
    fun _ => .refl s

/-! ### The completion of a scan (R14) -/

theorem State.scanned_keepsForces (f : Scan) (smp : Samples) : s.KeepsForces (s.scanned f smp) :=
  .of_alike (s.scanned_alike f smp) (.of_eq (by simp [State.scanned]) (by simp [State.scanned]) (by simp [State.scanned]))

theorem State.concluded_keepsForces (told testFirst : Bool) : s.KeepsForces (s.concluded told testFirst) := by
  have left : s.KeepsForces (if told then s.exitDoze else s) := .ite (fun _ => s.exitDoze_keepsForces) fun _ => .refl s
  simp only [State.concluded]
  generalize (if told then s.exitDoze else s) = t at left ⊢
  have tested : s.KeepsForces (if testFirst then t else t.dozeTest) :=
    .ite (fun _ => left) fun _ => left.trans t.dozeTest_keepsForces
  generalize (if testFirst then t else t.dozeTest) = u at tested ⊢
  exact .ite (fun _ => tested.trans u.beginScan_keepsForces) fun _ => tested

/-- In every order the blocks that take a record keep the law (R14, R119, R140). -/
theorem State.consume_keepsForces (r : ScanRecord) (changed : Bool) (ord : CompletionOrder) :
    s.KeepsForces (s.consume r changed ord) := by
  have faulted (u : State) : u.KeepsForces (u.onFault changed) := .of_record (u.onFault_takesRecord _) (u.onFault_runs _)
  have estimated (u : State) : u.KeepsForces (u.estimated r).1 := .of_record (u.estimated_takesRecord r) (u.estimated_runs r)
  have controlled (u : State) : u.KeepsForces (u.controlled r).1 :=
    .of_record (u.controlled_takesRecord r) (u.controlled_runs r)
  suffices h : ∃ told t, s.KeepsForces t ∧ s.consume r changed ord = t.concluded told ord.testFirst by
    obtain ⟨told, t, kept, e⟩ := h
    rw [e]; exact kept.trans (t.concluded_keepsForces told _)
  obtain ⟨faultFirst, controllerFirst, testFirst⟩ := ord
  have tested : s.KeepsForces (if testFirst then s.dozeTest else s) := .ite (fun _ => s.dozeTest_keepsForces) fun _ => .refl s
  generalize hs : (if testFirst then s.dozeTest else s) = s1 at tested
  simp only [State.consume, hs]
  cases faultFirst <;> cases controllerFirst <;> simp only [if_true, if_false, Bool.false_eq_true]
  · exact ⟨_, _, ((tested.trans (estimated _)).trans (controlled _)).trans (faulted _), rfl⟩
  · exact ⟨_, _, ((tested.trans (controlled _)).trans (estimated _)).trans (faulted _), rfl⟩
  · exact ⟨_, _, ((tested.trans (faulted _)).trans (estimated _)).trans (controlled _), rfl⟩
  · exact ⟨_, _, ((tested.trans (faulted _)).trans (controlled _)).trans (estimated _), rfl⟩

theorem State.completeScan_keepsForces (f : Scan) (smp : Samples) (ord : CompletionOrder) :
    s.KeepsForces (s.completeScan f smp ord) := (s.scanned_keepsForces f smp).trans (State.consume_keepsForces _ _ _ _)

/-! ### The discrete inputs (R132, R135, R136) -/

theorem State.sourceChanged_keepsForces : s.KeepsForces s.sourceChanged := by
  have changed : s.KeepsForces { s with tiers := s.tiers.suppression s.sourcePresent } := .of_others (.of_eq rfl rfl rfl) rfl
  exact .ite (fun _ => changed.resolve) fun _ => changed

theorem State.sourceInput_keepsForces (first : Bool) : s.KeepsForces (s.sourceInput first) := by
  have noticed : s.KeepsForces { s with notices := s.notices.edge .input true } := .of_others (.of_eq rfl rfl rfl) rfl
  exact .ite (fun _ => (noticed.trans (State.exitDoze_keepsForces _)).trans (State.sourceChanged_keepsForces _))
    fun _ => (noticed.trans (State.sourceChanged_keepsForces _)).trans (State.exitDoze_keepsForces _)

/-- An input whose debounced state stands, or that is not INSTALL, bears on no force. -/
theorem State.setPin_keepsForces (i : Input) (x : Pin) (h : i = .install → x.deb = s.power.install.deb) :
    s.KeepsForces { s with power := s.power.setPin i x } := by
  refine .of_others (fun may => ?_) rfl
  cases i with
  | shore | ign => exact ⟨may.awake, may.running, may.install, may.unquiet⟩
  | install => exact ⟨may.awake, may.running, (h rfl).trans may.install, may.unquiet⟩

theorem State.takeLevel_keepsForces {i : Input} (h : i ≠ .install) : s.KeepsForces (s.takeLevel i) :=
  s.setPin_keepsForces i _ fun install => absurd install h

/-- INSTALL is asserted after its debounced change, or every force lapses (R132, R136). -/
theorem State.installInput_keepsForces : s.KeepsForces (s.takeLevel .install).installInput := by
  refine .ite (fun asserted => ?_) fun _ => .of_unforced (State.lapse_unforced _)
  exact .of_others (fun may => ⟨may.awake, may.running, asserted, may.unquiet⟩) rfl

theorem State.takeInput_keepsForces (i : Input) (first : Bool) : s.KeepsForces
    (match i with
      | .shore => (s.takeLevel i).sourceInput first
      | .ign => (s.takeLevel i).sourceInput first
      | .install => (s.takeLevel i).installInput) := by
  cases i with
  | shore | ign => exact (s.takeLevel_keepsForces (by decide)).trans (State.sourceInput_keepsForces _ first)
  | install => exact s.installInput_keepsForces

/-! ### The answers to requests (R129, R156, R157) -/

/-- A force is set only where it may rest (R129). -/
theorem State.setForce_keepsForces (i : Ch) (f : Force) (may : s.Forceable) (fitted : s.chans[i].cfg.fitted = true) :
    s.KeepsForces (s.setForce i f) := by
  have forced : s.KeepsForces (s.setChan i { s.chans[i] with force := f }) := by
    simp only [State.KeepsForces, State.forceLaw_iff]
    intro law j some'
    refine ⟨.of_eq (by simp) (by simp) (by simp) may, ?_⟩
    rw [State.setChan_get] at some' ⊢
    split at some' <;> rename_i e
    · rw [if_pos e]; exact fitted
    · rw [if_neg e]; exact (law j some').2
  exact .ite (fun _ => .refl s) fun _ => forced.resolve

theorem State.switchOn_keepsForces (set : Nat) : s.KeepsForces (s.switchOn set) := by
  have on : s.KeepsForces (s.demandOn (s.effective set)) :=
    .of_chans (.of_eq (by simp [State.demandOn]) (by simp [State.demandOn]) (by simp [State.demandOn])) fun i => by
      rw [State.demandOn_get]; exact .of_eq rfl rfl
  exact on.trans (.of_moves (s.switchOn_moves set))

theorem State.switchOff_keepsForces (set : Nat) : s.KeepsForces (s.switchOff set) := by
  refine .trans (.of_chans (.of_eq (by simp [State.demandOff]) (by simp [State.demandOff]) (by simp [State.demandOff]))
    fun i => ?_) (.of_moves (s.switchOff_moves set))
  rw [State.demandOff_get]; split
  · obtain ⟨-, -, -, cfg, -, force, -⟩ := s.chans[i].demandOff_fields
    exact .of_eq force (by rw [cfg])
  · exact .of_eq rfl rfl

theorem State.clearTrips_keepsForces (set : Nat) : s.KeepsForces (s.clearTrips set) := by
  have chan (i : Ch) : s.chans[i].KeepsForce (s.cleared (s.effective set)).chans[i] := by
    rw [State.cleared_get]; split <;> exact .of_eq rfl rfl
  have cleared (n : Notices) : s.KeepsForces { s.cleared (s.effective set) with notices := n } :=
    .of_chans (.of_eq (by simp [State.cleared]) (by simp [State.cleared]) (by simp [State.cleared])) chan
  exact (cleared _).trans (.of_moves (s.clearTrips_moves set))

theorem State.writeLoads_keepsForces (new : Ch → LoadSettings) : s.KeepsForces (s.writeLoads new) :=
  .of_chans (.of_eq (s.writeLoads_inReset new) (by simp [State.writeLoads]) (by simp [State.writeLoads])) fun i => by
    rw [State.writeLoads_get]; exact Chan.write_keepsForce _ _

theorem State.takeProfile_keepsForces (p : Profile) : s.KeepsForces (s.takeProfile p) := by
  have written := s.writeLoads_keepsForces fun i => p.loads[i]
  simp only [State.takeProfile]
  generalize (s.writeLoads fun i => p.loads[i]) = t at written ⊢
  exact written.trans (.of_others (fun may => ⟨may.awake, may.running, may.install, may.unquiet⟩) rfl)

variable {s}

/-- Outside a reset, and with the link-quiet timer restarted, every answer keeps the law. -/
theorem State.Serves.keepsForces {t : State} (h : s.Serves t) (awake : s.inReset = none)
    (unquiet : s.link.quietHanded = false) : s.KeepsForces t := by
  have others {u : State} (inReset : u.inReset = s.inReset) (power : u.power = s.power) (link : u.link = s.link)
      (chans : u.chans = s.chans) : s.KeepsForces u := .of_others (.of_eq inReset power link) chans
  have handed {u : State} (p : Prop) [Decidable p] (inReset : u.inReset = s.inReset) (power : u.power = s.power)
      (link : u.link = s.link) (chans : u.chans = s.chans) : s.KeepsForces (if p then u.resolve else u) :=
    .ite (fun _ => (others inReset power link chans).resolve) fun _ => others inReset power link chans
  have changed {u : State} (p : Prop) [Decidable p] (inReset : u.inReset = s.inReset) (power : u.power = s.power)
      (link : u.link = s.link) (chans : u.chans = s.chans) : s.KeepsForces (if p then s else u.resolve) :=
    .ite (fun _ => .refl s) fun _ => (others inReset power link chans).resolve
  cases h with
  | nothing => exact .refl s
  | demandOn set => exact s.switchOn_keepsForces set
  | demandOff set => exact s.switchOff_keepsForces set
  | reheld | acknowledged | masked | countersCleared | batteryWritten | curveWritten | selectorsWritten | charged | saving =>
    exact others rfl rfl rfl rfl
  | held i minutes =>
    exact (others (u := { s with holds := placeHold (s.holdEntry i minutes) s.holds }) rfl rfl rfl rfl).resolve
  | released => exact .ite (fun _ => (others (u := s.dropHolds _) rfl rfl rfl rfl).resolve) fun _ => .refl s
  | forced i f fitted install running =>
    refine s.setForce_keepsForces i f ⟨awake, ?_, install, unquiet⟩ fitted
    cases st : s.power.st with
    | run => rfl
    | doze => exact absurd st running
  | tripsCleared set => exact s.clearTrips_keepsForces set
  | usageCleared set => exact .of_alike (s.clearUsage_alike set) (.of_eq (by simp) (by simp) (by simp))
  | linkCountsCleared | dozeWritten =>
    exact .of_others (fun may => ⟨may.awake, may.running, may.install, may.unquiet⟩) rfl
  | tierWritten => exact handed _ rfl rfl rfl rfl
  | loadsWritten first ws => exact (s.writeLoads_keepsForces _).trans (.of_moves (s.setLoads_moves _))
  | sequenceWritten | moved => exact changed _ rfl rfl rfl rfl
  | defaults => exact (s.takeProfile_keepsForces _).resolve
  | dozes unforced => exact s.enterDoze_keepsForces unforced

end

end Sys2Proof.Machine
end

section
/-! PROOFS. Every command, and so every step, keeps the law of the forces. -/

namespace Sys2Proof.Machine

/-! ### The link (R132, R143, R147 to R156) -/

/-- A change of the link that does not hand over the link quiet bears on no force. -/
theorem State.onLink_keepsForces (s : State) {f : Link → Link} (h : (f s.link).quietHanded = s.link.quietHanded) :
    s.KeepsForces (s.onLink f) :=
  .of_others (fun may => ⟨may.awake, may.running, may.install, h.trans may.unquiet⟩) rfl

section
variable (s : State)

theorem State.dropReply_keepsForces : s.KeepsForces s.dropReply :=
  .ite (fun _ => s.onLink_keepsForces rfl) fun _ => .refl s

theorem State.beginChar_keepsForces (start : Sample3) : s.KeepsForces (s.beginChar start) :=
  .ite (fun _ => s.onLink_keepsForces rfl) fun _ => s.onLink_keepsForces rfl

theorem State.address_keepsForces (a : Nat) : s.KeepsForces (s.address a) :=
  .ite (fun _ => s.onLink_keepsForces rfl) fun _ => .refl s

theorem State.fall_keepsForces (start : Sample3) : s.KeepsForces (s.fall start) :=
  .ite (fun _ => s.dropReply_keepsForces.trans (State.resetBy_keepsForces _ _))
    fun _ => (s.dropReply_keepsForces.trans (State.exitDoze_keepsForces _)).trans (State.beginChar_keepsForces _ start)

variable {s}

/-- An accepted frame restarts the link-quiet timer before its request is answered (R153). -/
theorem State.handle_keepsForces (awake : s.inReset = none) (kind : Nat) (r : Req) {f : List Nat → State → Answer}
    (hf : ∀ (p : List Nat) (u : State), u.Serves (f p u).state) : s.KeepsForces (s.handle kind r f) := by
  have taken : s.KeepsForces s.frameGood := .of_others (fun may => ⟨may.awake, may.running, may.install, rfl⟩) (by simp)
  have answered : s.KeepsForces (f (r.payload.map BitVec.toNat) s.frameGood).state :=
    taken.trans ((hf _ _).keepsForces (by rw [State.frameGood_inReset, awake]) rfl)
  refine .ite (fun _ => taken) fun _ => .ite
    (fun _ => .ite (fun _ => answered.trans (State.resetBy_keepsForces _ _)) fun _ => answered) fun _ => answered.trans ?_
  exact .of_others (fun may => ⟨may.awake, may.running, may.install, may.unquiet⟩) rfl

theorem State.acceptFrame_keepsForces (awake : s.inReset = none) (frame : List Byte) : s.KeepsForces (s.acceptFrame frame) := by
  unfold State.acceptFrame; split
  · exact State.handle_keepsForces awake _ _ fun p u => answerKind_serves p u _
  · exact .refl s

theorem State.data_keepsForces (awake : s.inReset = none) (d : Nat) : s.KeepsForces (s.data d) :=
  .ite (fun _ => s.onLink_keepsForces rfl) fun _ =>
    .ite (fun _ => .ite (fun _ => State.acceptFrame_keepsForces awake _) fun _ => s.onLink_keepsForces rfl)
      fun _ => s.onLink_keepsForces rfl

theorem State.character_keepsForces (awake : s.inReset = none) (isAddress : Bool) (d : Nat) :
    s.KeepsForces (s.character isAddress d) := by
  unfold State.character; split
  · exact .ite (fun _ => s.address_keepsForces d) fun _ => .refl s
  · exact .ite (fun _ => (s.onLink_keepsForces rfl).trans (State.address_keepsForces _ d))
      fun _ => State.data_keepsForces awake d
  · exact .refl s

theorem State.takeChar_keepsForces (awake : s.inReset = none) (fall : Nat) (c : CharSamples) :
    s.KeepsForces (s.takeChar fall c) :=
  .ite (fun _ => (s.onLink_keepsForces rfl).trans (State.character_keepsForces (s := s.onLink _) awake _ _))
    fun _ => (s.onLink_keepsForces rfl).trans (State.onLink_keepsForces _ rfl)

/-! ### Requests and events (R144, R153) -/

theorem State.elapse_keepsForces (s : State) (dt : Nat) : s.KeepsForces (s.elapse dt) := .of_others (.of_eq rfl rfl rfl) rfl

theorem State.event_keepsForces {t : State} {dt : Nat} {f : State → State}
    (hf : ∀ u : State, u.inReset = none → u.KeepsForces (f u)) (h : s.event dt f = .next t) : s.KeepsForces t := by
  cases h
  refine (s.elapse_keepsForces dt).trans (.ite (fun _ => .refl _) fun awake => hf _ ?_)
  simpa using awake

theorem State.request_keepsForces {t : State} {dt kind : Nat} {r : Req} {f : List Nat → State → Answer}
    (hf : ∀ (p : List Nat) (u : State), u.Serves (f p u).state) (h : s.request dt kind r f = .next t) : s.KeepsForces t :=
  State.event_keepsForces (f := fun u => if u.link.rx = .send then u
      else if u.link.reply.any Reply.thenReset then u.resetBy .request else u.handle kind r f)
    (fun u awake => .ite (fun _ => .refl u) fun _ => .ite (fun _ => u.resetBy_keepsForces _)
      fun _ => State.handle_keepsForces awake kind r hf) h

/-- An event that acts under a guard. -/
theorem State.guarded_keepsForces {t : State} {dt : Nat} (p : State → Prop) [DecidablePred p] (f : State → State)
    (hf : ∀ u : State, u.KeepsForces (f u)) (h : s.event dt (fun u => if p u then f u else u) = .next t) : s.KeepsForces t :=
  State.event_keepsForces (fun u _ => .ite (fun _ => hf u) fun _ => .refl u) h

end

/-! ### Every command -/

section
variable (dt : Nat) (s : State) {t : State}

theorem execCharacterTaken_keepsForces (c : CharSamples) (h : execCharacterTaken dt c s = .next t) : s.KeepsForces t := by
  refine State.event_keepsForces (fun u awake => ?_) h
  split
  · exact .ite (fun _ => State.takeChar_keepsForces awake _ c) fun _ => .refl u
  · exact .refl u

theorem execReplyStart_keepsForces (h : execReplyStart dt s = .next t) : s.KeepsForces t := by
  refine State.event_keepsForces (fun u _ => ?_) h
  split
  · exact .ite (fun _ => u.onLink_keepsForces rfl) fun _ => .refl u
  · exact .refl u

theorem execReplyEnd_keepsForces (h : execReplyEnd dt s = .next t) : s.KeepsForces t := by
  refine State.event_keepsForces (fun u _ => ?_) h
  split
  · have idle : u.KeepsForces (u.onLink fun l => { l with rx := .wait, sending := none }) := u.onLink_keepsForces rfl
    exact .ite (fun _ => .ite (fun _ => idle.trans (State.resetBy_keepsForces _ _)) fun _ => idle) fun _ => .refl u
  · exact .refl u

/-- The hand-over of the link quiet leaves no force (R132). -/
theorem execLinkQuiet_keepsForces (h : execLinkQuiet dt s = .next t) : s.KeepsForces t :=
  State.guarded_keepsForces _ _ (fun _ => .of_unforced (State.lapse_unforced _)) h

theorem execScanComplete_keepsForces (smp : Samples) (ord : CompletionOrder) (h : execScanComplete dt smp ord s = .next t) :
    s.KeepsForces t := by
  refine State.event_keepsForces (fun u _ => ?_) h
  split
  · exact .ite (fun _ => u.completeScan_keepsForces _ smp ord) fun _ => .refl u
  · exact .refl u

theorem execRawInputChange_keepsForces (i : Input) (low : Bool) (h : execRawInputChange dt i low s = .next t) :
    s.KeepsForces t := by
  cases h
  refine (s.elapse_keepsForces dt).trans (State.setPin_keepsForces _ i _ fun install => ?_)
  rw [install]; split
  · rfl
  · exact Pin.raise_deb _ _ _

theorem execDebouncedChange_keepsForces (i : Input) (first : Bool) (h : execDebouncedChange dt i first s = .next t) :
    s.KeepsForces t :=
  State.event_keepsForces (fun u _ => .ite (fun _ => u.takeInput_keepsForces i first) fun _ => .refl u) h

theorem execResetEnd_keepsForces (adr : BitVec 4) (br : BitVec 2) (h : execResetEnd dt adr br s = .next t) :
    s.KeepsForces t := by
  cases reset : s.inReset with
  | none =>
    have idle : execResetEnd dt adr br s = .next (s.elapse dt) := by simp [execResetEnd, reset]
    rw [idle] at h; cases h; exact s.elapse_keepsForces dt
  | some r =>
    obtain ⟨p, source, ends, -⟩ := exec_resetEnd dt adr br s r reset
    rw [exec] at ends
    rw [ends] at h; cases h
    exact (s.elapse_keepsForces dt).trans (State.takesUp_keepsForces _ r p source adr br)

theorem execRetryExpiry_keepsForces (i : Ch) (h : execRetryExpiry dt i s = .next t) : s.KeepsForces t := by
  refine State.guarded_keepsForces _ _ (fun u => .resolveOutputs (.setChan u i ?_)) h
  exact .of_eq rfl rfl

theorem execGoodRun_keepsForces (i : Ch) (h : execGoodRun dt i s = .next t) : s.KeepsForces t := by
  refine State.guarded_keepsForces _ _ (fun u => .setChan u i ?_) h
  exact .of_eq rfl rfl

theorem execRunLockExpiry_keepsForces (i : Ch) (h : execRunLockExpiry dt i s = .next t) : s.KeepsForces t := by
  refine State.guarded_keepsForces _ _ (fun u => .resolve (.setChan u i ?_)) h
  exact .of_eq rfl rfl

theorem execRestLockExpiry_keepsForces (i : Ch) (h : execRestLockExpiry dt i s = .next t) : s.KeepsForces t := by
  refine State.guarded_keepsForces _ _ (fun u => .resolve (.derive (.setChan u i ?_))) h
  exact .of_eq rfl rfl

theorem execBlankingEnd_keepsForces (i : Ch) (h : execBlankingEnd dt i s = .next t) : s.KeepsForces t := by
  refine State.guarded_keepsForces _ _ (fun u => .setChan u i ?_) h
  exact .of_eq rfl rfl

theorem execHoldExpiry_keepsForces (i : Ch) (h : execHoldExpiry dt i s = .next t) : s.KeepsForces t := by
  refine State.guarded_keepsForces _ _ (fun u => .resolve (.report ?_ _ _)) h
  exact .of_others (.of_eq rfl rfl rfl) rfl

theorem execSaveEnd_keepsForces (good : Bool) (h : execSaveEnd dt good s = .next t) : s.KeepsForces t := by
  refine State.event_keepsForces (fun u _ => ?_) h
  split
  · exact .of_others (.of_eq rfl rfl rfl) rfl
  · exact .refl u

theorem resetSource_keepsForces (src : ResetSource) : s.KeepsForces ((s.elapse dt).resetBy src) :=
  (s.elapse_keepsForces dt).trans (State.resetBy_keepsForces _ src)

end

/-- Every command keeps the law of the forces. -/
theorem exec_keepsForces (c : Instr) (s t : State) (h : exec c s = .next t) : s.KeepsForces t := by
  cases c
  case ident => exact State.request_keepsForces ansIdent_serves h
  case status => exact State.request_keepsForces ansStatus_serves h
  case loadStatus => exact State.request_keepsForces ansLoadStatus_serves h
  case linkStatus => exact State.request_keepsForces ansLinkStatus_serves h
  case countersRead => exact State.request_keepsForces ansCountersRead_serves h
  case measure => exact State.request_keepsForces ansMeasure_serves h
  case switch => exact State.request_keepsForces ansSwitch_serves h
  case hold => exact State.request_keepsForces ansHold_serves h
  case releaseHold => exact State.request_keepsForces ansReleaseHold_serves h
  case force => exact State.request_keepsForces ansForce_serves h
  case clearTrip => exact State.request_keepsForces ansClearTrip_serves h
  case clearUsage => exact State.request_keepsForces ansClearUsage_serves h
  case ack => exact State.request_keepsForces ansAck_serves h
  case mask => exact State.request_keepsForces ansMask_serves h
  case countersClear => exact State.request_keepsForces ansCountersClear_serves h
  case clearLinkCounts => exact State.request_keepsForces ansClearLinkCounts_serves h
  case profileRead => exact State.request_keepsForces ansProfileRead_serves h
  case profileWriteBattery => exact State.request_keepsForces ansWriteBattery_serves h
  case profileWriteTiers => exact State.request_keepsForces ansWriteTiers_serves h
  case profileWriteLoads => exact State.request_keepsForces ansWriteLoads_serves h
  case profileWriteCurve => exact State.request_keepsForces ansWriteCurve_serves h
  case profileWriteSequence => exact State.request_keepsForces ansWriteSequence_serves h
  case profileWriteNotice => exact State.request_keepsForces ansWriteNotice_serves h
  case profileWriteCounters => exact State.request_keepsForces ansWriteCounters_serves h
  case profileWriteDoze => exact State.request_keepsForces ansWriteDoze_serves h
  case move => exact State.request_keepsForces ansMove_serves h
  case save => exact State.request_keepsForces ansSave_serves h
  case loadDefaults => exact State.request_keepsForces ansLoadDefaults_serves h
  case setChargeReserve => exact State.request_keepsForces ansSetChargeReserve_serves h
  case setChargeFull => exact State.request_keepsForces ansSetChargeFull_serves h
  case doze => exact State.request_keepsForces ansDoze_serves h
  case restart => exact State.request_keepsForces ansRestart_serves h
  case startBit =>
    exact State.event_keepsForces (fun u _ => .ite (fun _ => .refl u) fun _ => u.fall_keepsForces _) h
  case characterTaken => exact execCharacterTaken_keepsForces _ s _ h
  case breakHeld | gap => exact State.guarded_keepsForces _ _ (fun u => u.onLink_keepsForces rfl) h
  case replyStart => exact execReplyStart_keepsForces _ s h
  case replyEnd => exact execReplyEnd_keepsForces _ s h
  case linkQuiet => exact execLinkQuiet_keepsForces _ s h
  case scanBegin => exact State.guarded_keepsForces _ _ State.beginScan_keepsForces h
  case scanComplete => exact execScanComplete_keepsForces _ s _ _ h
  case rawInputChange => exact execRawInputChange_keepsForces _ s _ _ h
  case debouncedChange => exact execDebouncedChange_keepsForces _ s _ _ h
  case powerOn | supplyLow | rstn => cases h; exact resetSource_keepsForces _ s _
  case resetEnd => exact execResetEnd_keepsForces _ s _ _ h
  case retryExpiry => exact execRetryExpiry_keepsForces _ s _ h
  case goodRun => exact execGoodRun_keepsForces _ s _ h
  case runLockExpiry => exact execRunLockExpiry_keepsForces _ s _ h
  case restLockExpiry => exact execRestLockExpiry_keepsForces _ s _ h
  case blankingEnd => exact execBlankingEnd_keepsForces _ s _ h
  case shedSpacingEnd | restoreSpacingEnd | settleTimeEnd =>
    exact State.guarded_keepsForces _ _ (fun u => .resolve (.refl u)) h
  case holdExpiry => exact execHoldExpiry_keepsForces _ s _ h
  case saveEnd => exact execSaveEnd_keepsForces _ s _ h

/-- Settles O9: the front command keeps the law (`exec_keepsForces`): FORCE alone sets a force, where it may rest
(`State.setForce_keepsForces`), and what takes its ground away leaves no force: a debounced change of INSTALL, the hand-over of the
link quiet and a reset clear all of them, and DOZE is not entered while there is one. -/
theorem everyStepKeepsTheForceLaw : Obligations.EveryStepKeepsTheForceLaw := by
  intro s t law h
  unfold step at h
  split at h
  · cases h; exact law
  · rename_i c rest _
    exact exec_keepsForces c { s with pending := rest } t h law

end Sys2Proof.Machine
end


section
/-! PROOFS. HOLD, RELEASE_HOLD and HOLD_EXPIRY. -/

namespace Sys2Proof.Machine

/-! ### The list as it is answered (R121, R122) -/

theorem State.holdField_eq (s : State) : s.holdField = u8 s.holds.length ++ s.holds.flatMap fun e =>
    u8 (e.ch.val + 1) ++ u8 ((e.expiry - s.now + (Config.unitsPerMinute - 1)) / Config.unitsPerMinute) := by
  have perMinute : 0 < Config.unitsPerMinute := by decide
  simp only [State.holdField, channelNo, remaining_eq _ _ perMinute, Option.getD_some]

theorem State.mapNumber_hold (i : Ch) (m : Byte) : (u8 (i.val + 1) ++ [m]).map BitVec.toNat = [i.val + 1, m.toNat] := by
  rw [List.map_append, u8_number]; rfl

theorem State.fittedChannel_fitted {s : State} {i : Ch} (fitted : s.chans[i].cfg.fitted = true) :
    s.fittedChannel (i.val + 1) = some i := by rw [State.fittedChannel_number, if_pos fitted]

/-! ### HOLD (R122) -/

/-- The reply to a HOLD that is accepted: the channel, the minutes as stored, and the list (R122). -/
def State.holdReply (s : State) (i : Ch) (m : Nat) : Answer :=
  s.accept (if clampNat 1 240 m = m then .ok else .clamped) (u8 (i.val + 1) ++ u8 (clampNat 1 240 m) ++ s.holdField)

/-- HOLD on a fitted channel: its checks in their order (R122). -/
theorem ansHold_fitted {s : State} {i : Ch} (fitted : s.chans[i].cfg.fitted = true) (m : Byte) :
    ansHold ((u8 (i.val + 1) ++ [m]).map BitVec.toNat) s =
      if s.chans[i].cfg.cls ≠ .sheddable ∨ s.chans[i].demand = false then
        s.accept .notApplicable (u8 (i.val + 1) ++ u8 s.holds.length)
      else if s.held i then (s.rehold i (clampNat 1 240 m.toNat)).holdReply i m.toNat
      else if 4 ≤ s.holds.length then s.accept .holdFull (u8 (i.val + 1) ++ u8 s.holds.length)
      else (s.placeNew i (clampNat 1 240 m.toNat)).holdReply i m.toNat := by
  rw [State.mapNumber_hold]
  simp only [ansHold, State.fittedChannel_fitted fitted, State.holdReply, clampedIf_eq]

/-- The entries of a re-hold are the new one and those of the other channels (R122). -/
theorem State.mem_rehold (s : State) (i : Ch) (minutes : Nat) (e : HoldEntry) :
    e ∈ (s.rehold i minutes).holds ↔ e = s.holdEntry i minutes ∨ (e ∈ s.holds ∧ e.ch ≠ i) := by
  simp only [State.rehold, mem_placeHold, State.mem_dropHolds, decide_eq_false_iff_not]

theorem State.placeNew_moves (s : State) (i : Ch) (minutes : Nat) :
    State.Moves { s with holds := placeHold (s.holdEntry i minutes) s.holds } (s.placeNew i minutes) := State.resolve_moves _

theorem State.withHolds_spares (s : State) (l : List HoldEntry) : s.Spares { s with holds := l } := by constructor <;> simp

/-- Settles O27: the checks of HOLD in their order (`ansHold_fitted`), which lead to a re-hold (`State.mem_rehold`), to a new entry
in the list that the Sequencer reconsiders on (`State.placeNew_moves`), or to a refusal. -/
theorem holdPlacesAnEntry : Obligations.HoldPlacesAnEntry := by
  intro dt tag m s i hears fitted u k minutes entry status listed request eligible
  have runs {a : Answer} (h : ansHold ((k ++ [m]).map BitVec.toNat) u = a) :
      exec request s = .next (a.state.answered 0x11 tag a.status a.payload) :=
    State.request_answered s dt 0x11 tag (k ++ [m]) ansHold hears (by decide) h
  have answer := ansHold_fitted (s := u) (i := i) (by rw [State.taken_chans]; exact fitted) m
  rw [State.taken_chans, State.taken_held, State.taken_holds] at answer
  have replies (v : State) : let a := v.holdReply i m.toNat
      let t := a.state.answered 0x11 tag a.status a.payload
      t.Replies 0x11 tag status (listed t) := by
    intro a t
    have payload : a.payload = listed t := by
      simp only [a, t, State.holdReply, State.accept, State.holdField_eq, listed, k, minutes, List.append_assoc,
        State.answered_holds, State.answered_now]
    rw [← payload]; exact State.answered_replies _ _ _ _ _
  refine ⟨fun ineligible => ?_, fun allowed held => ?_, fun allowed unheld full => ?_, fun allowed unheld room => ?_⟩
  · rw [if_pos (by rw [← Bool.not_eq_true, ← not_and_or]; exact ineligible)] at answer
    exact runs answer
  all_goals
    obtain ⟨cls, demand⟩ := allowed
    rw [if_neg (by rw [cls, demand]; decide)] at answer
  · rw [if_pos held] at answer
    refine ⟨_, runs answer, ?_, fun e => ?_, replies (u.rehold i minutes)⟩
    · simp only [State.holdReply, State.accept, State.answered, State.rehold, State.dropHolds]
    have entries := u.mem_rehold i minutes e
    rw [State.taken_holds] at entries
    exact entries
  · rw [if_neg (ne_true_of_eq_false unheld), if_pos full] at answer
    exact runs answer
  · rw [if_neg (ne_true_of_eq_false unheld), if_neg (Nat.not_le_of_lt room)] at answer
    have moves := u.placeNew_moves i minutes
    generalize u.placeNew i minutes = v at answer moves
    have holds : v.holds = placeHold entry s.holds := moves.holds
    have spares : u.Spares v := (u.withHolds_spares _).trans moves.spares
    have chans : ∀ j : Ch, s.chans[j].Keeps v.chans[j] := fun j => (moves.chans j).keeps
    refine ⟨_, runs answer, ?_, ?_, (State.Spares.of_taken spares).answered _ _ _ _, chans, replies v⟩
    · intro e
      rw [State.answered_holds, State.holdReply, State.accept, holds]
      exact mem_placeHold entry e s.holds
    · rw [State.answered_holds, State.holdReply, State.accept, holds]
      exact length_placeHold entry s.holds

/-! ### RELEASE_HOLD (R125) -/

theorem ansReleaseHold_fitted {s : State} {i : Ch} (fitted : s.chans[i].cfg.fitted = true) :
    ansReleaseHold ((u8 (i.val + 1)).map BitVec.toNat) s =
      (s.release i).accept .ok (u8 (i.val + 1) ++ (s.release i).holdField) := by
  rw [u8_number]
  simp only [ansReleaseHold, State.fittedChannel_fitted fitted]

/-- The entries that are left when those of one channel go (R124, R125). -/
theorem State.dropHolds_one (s : State) (i : Ch) :
    (s.dropHolds fun j => decide (j = i)).holds = s.holds.filter fun e => decide (e.ch ≠ i) := by
  simp only [State.dropHolds, decide_not]

theorem State.dropHolds_unheld {s : State} {i : Ch} (unheld : s.held i = false) :
    (s.dropHolds fun j => decide (j = i)) = s := by
  have all : s.holds.filter (fun e => !decide (e.ch = i)) = s.holds :=
    List.filter_eq_self.2 fun e entry => by simpa using (s.unheld_iff i).1 unheld e entry
  simp only [State.dropHolds, all]

theorem State.release_eq (s : State) (i : Ch) : s.release i =
    if s.held i then (s.dropHolds fun j => decide (j = i)).resolve else s.dropHolds fun j => decide (j = i) := by
  unfold State.release; split
  · rfl
  · rename_i unheld; exact (State.dropHolds_unheld (eq_false_of_ne_true unheld)).symm

theorem State.release_moves (s : State) (i : Ch) : (s.dropHolds fun j => decide (j = i)).Moves (s.release i) := by
  rw [State.release_eq]; split
  · exact State.resolve_moves _
  · exact .refl _

theorem EventKind.holdExpiry_unshed : EventKind.holdExpiry.Unshed := ⟨by decide, by decide, by decide⟩

/-- A release counts no HOLD_EXPIRY (R125). -/
theorem State.release_silent (s : State) (i : Ch) : s.Silent .holdExpiry (s.release i) := by
  rw [State.release_eq]
  exact .trans (.of_tally (s.dropHolds_tally _) _) (State.resolveIf_silent _ EventKind.holdExpiry_unshed _)

/-- A counter whose value stands within its ceiling is left by silence as it stands (R165). -/
theorem State.Silent.eq {s t : State} {kind : EventKind} (h : s.Silent kind t) {k : Fin 8} (selected : s.tally[k].sel.kind = kind)
    (low : s.tally[k].value ≤ Config.totalMax) : t.tally[k] = s.tally[k] := by
  rcases h k selected with e | e
  · exact e
  · rw [e, Nat.min_eq_right low]

theorem releaseHold_removes (dt : Nat) (tag : Byte) (s : State) (i : Ch) (hears : s.Hears)
    (fitted : s.chans[i].cfg.fitted = true) : ∃ t, exec (.releaseHold dt ⟨false, tag, u8 (i.val + 1)⟩) s = .next t ∧
      t.holds = s.holds.filter (fun e => decide (e.ch ≠ i)) ∧ s.Spares t ∧ (∀ j : Ch, s.chans[j].Keeps t.chans[j]) ∧
      (s.CeilingLaw → ∀ k : Fin 8, s.tally[k].sel.kind = .holdExpiry → t.tally[k] = s.tally[k]) ∧
      t.Replies 0x12 tag .ok (u8 (i.val + 1) ++ u8 t.holds.length ++ t.holds.flatMap fun e => u8 (e.ch.val + 1)
        ++ u8 ((e.expiry - t.now + (Config.unitsPerMinute - 1)) / Config.unitsPerMinute)) := by
  have runs := State.request_answered s dt 0x12 tag (u8 (i.val + 1)) ansReleaseHold hears (by decide)
    (ansReleaseHold_fitted (by rw [State.taken_chans]; exact fitted))
  have moves := (s.taken dt).release_moves i
  have silent := (s.taken dt).release_silent i
  rw [State.holdField_eq, ← List.append_assoc] at runs
  generalize (s.taken dt).release i = t at runs moves silent
  refine ⟨_, runs, ?_⟩
  simp only [State.accept, State.answered_holds, State.answered_chans, State.answered_tally, State.answered_now]
  refine ⟨?_, State.Spares.answered (.of_taken (dt := dt) ?_) _ _ _ _, fun j => ?_, fun law k selected => ?_,
    State.answered_replies _ _ _ _ _⟩
  · rw [moves.holds, State.dropHolds_one, State.taken_holds]
  · exact (State.dropHolds_spares _ _).trans moves.spares
  · have kept := (moves.chans j).keeps
    rw [State.dropHolds_chans, State.taken_chans] at kept
    exact kept
  · have same := silent.eq (k := k) (by rw [State.taken_tally]; exact selected) (by rw [State.taken_tally]; exact law.tallies k)
    rw [State.taken_tally] at same; exact same

/-! ### HOLD_EXPIRY (R124) -/

/-- The part with the entry of a channel that has expired gone, HOLD_END set and the expiry counted (R124). -/
def State.expired (s : State) (i : Ch) : State :=
  State.report { s.dropHolds (fun j => decide (j = i)) with notices := s.notices.edge .holdEnd true } .holdExpiry [channelNo i]

theorem exec_holdExpiry (dt : Nat) (i : Ch) (s : State) (awake : s.inReset = none)
    (due : ∃ e ∈ s.holds, e.ch = i ∧ e.expiry ≤ s.now + dt) :
    exec (.holdExpiry dt i) s = .next ((s.elapse dt).expired i).resolve := by
  obtain ⟨e, entry, same, reached⟩ := due
  have now : (s.elapse dt).holdDue i = true := List.any_eq_true.2 ⟨e, entry, by simp [same, reached]⟩
  exact (State.event_eq s dt _ awake).trans (congrArg _ (if_pos now))

theorem State.expired_spares (s : State) (i : Ch) : State.Spares { s with notices := (s.expired i).notices } (s.expired i) := by
  constructor <;> simp [State.expired]

/-- One event counts for a counter of its kind with qualifier 0 or its number that is not inhibited (R165). -/
theorem Counter.count_one {k : EventKind} {c : Counter} (selected : c.sel.kind = k) (counting : k ≠ .none) (n : Nat) :
    (c.count k [n]).value =
      if (c.sel.qualifier = 0 ∨ c.sel.qualifier = n) ∧ c.sel.inhibit = false then min Config.totalMax (c.value + 1)
      else min Config.totalMax c.value := by
  have counted : c.sel.counts k n = decide ((c.sel.qualifier = 0 ∨ c.sel.qualifier = n) ∧ c.sel.inhibit = false) := by
    cases inhibit : c.sel.inhibit <;> simp [Selector.counts, selected, counting, inhibit]
  rw [Counter.count_value_eq, List.filter_singleton, counted]
  by_cases counts : (c.sel.qualifier = 0 ∨ c.sel.qualifier = n) ∧ c.sel.inhibit = false
  · rw [if_pos counts, decide_eq_true counts]; rfl
  · rw [if_neg counts, decide_eq_false counts]; rfl

theorem holdExpiry_removes (dt : Nat) (s : State) (i : Ch) (awake : s.inReset = none)
    (due : ∃ e ∈ s.holds, e.ch = i ∧ e.expiry ≤ s.now + dt) : ∃ t,
      exec (.holdExpiry dt i) s = .next t ∧
      t.holds = s.holds.filter (fun e => decide (e.ch ≠ i)) ∧
      State.Spares { s with notices := t.notices } t ∧ (∀ j : Ch, s.chans[j].Keeps t.chans[j]) ∧
      t.notices.latch = s.notices.latch ||| 0b000100000 ∧ t.notices.mask = s.notices.mask ∧
      t.notices.ackMark = s.notices.ackMark ∧
      (∀ k : Fin 8, s.tally[k].sel.kind = .holdExpiry → t.tally[k].value =
        if (s.tally[k].sel.qualifier = 0 ∨ s.tally[k].sel.qualifier = i.val + 1) ∧ s.tally[k].sel.inhibit = false
        then min Config.totalMax (s.tally[k].value + 1) else min Config.totalMax s.tally[k].value) := by
  have moves := ((s.elapse dt).expired i).resolve_moves
  have silent := ((s.elapse dt).expired i).resolve_silent EventKind.holdExpiry_unshed
  have notices : ((s.elapse dt).expired i).notices = s.notices.edge .holdEnd true := by
    simp only [State.expired, State.report_notices, State.elapse_notices]
  have chans : ((s.elapse dt).expired i).chans = s.chans := by simp [State.expired]
  have tally (k : Fin 8) : ((s.elapse dt).expired i).tally[k] = s.tally[k].count .holdExpiry [channelNo i] := by
    simp [State.expired]
  refine ⟨_, exec_holdExpiry dt i s awake due, ?_, ?_, fun j => ?_, ?_, ?_, ?_, fun k selected => ?_⟩
  · rw [moves.holds, State.expired, State.report_holds]; exact State.dropHolds_one _ i
  · rw [moves.notices]
    exact (State.elapse_spares { s with notices := ((s.elapse dt).expired i).notices } dt).trans
      (((s.elapse dt).expired_spares i).trans moves.spares)
  · have kept := (moves.chans j).keeps
    rw [chans] at kept; exact kept
  · rw [moves.notices, notices, Notices.edge_latch, if_pos rfl]; rfl
  · rw [moves.notices, notices, Notices.edge_mask]
  · rw [moves.notices, notices, Notices.edge_ackMark]
  · rw [silent.eq (k := k) (by rw [tally]; exact selected) (by rw [tally]; exact (Counter.count_value _ _ _).1), tally]
    exact Counter.count_one selected (by decide) _

/-- Settles O28: the release (`releaseHold_removes`) and the expiry (`holdExpiry_removes`) filter the list, and the Sequencer's moves
that follow report no HOLD_EXPIRY (`State.resolve_silent`). -/
theorem holdEntriesLeaveByExpiryOrRelease : Obligations.HoldEntriesLeaveByExpiryOrRelease := fun dt tag s i =>
  ⟨releaseHold_removes dt tag s i, holdExpiry_removes dt s i⟩

end Sys2Proof.Machine
end

section
/-! PROOFS. FORCE, and the lapse of the forces at link quiet. -/

namespace Sys2Proof.Machine

/-! ### FORCE (R129, R130) -/

theorem Force.ofCode_code (f : Force) : Force.ofCode f.code = some f := by cases f <;> rfl

theorem ansForce_fitted {s : State} {i : Ch} (fitted : s.chans[i].cfg.fitted = true) (f : Force) :
    ansForce ((u8 (i.val + 1) ++ u8 f.code).map BitVec.toNat) s =
      if s.power.install.deb = false then s.refuse .denied
      else if s.power.st = .doze then s.refuse .notApplicable
      else (s.setForce i f).accept .ok
        (u8 (i.val + 1) ++ u8 f.code ++ u8 (bitIf (s.setForce i f).chans[i].out 1)) := by
  have read : (u8 (i.val + 1) ++ u8 f.code).map BitVec.toNat = [i.val + 1, f.code] := by
    rw [List.map_append, u8_number]; cases f <;> rfl
  rw [read]
  simp only [ansForce, State.fittedChannel_fitted fitted, Force.ofCode_code]

/-- One channel with its force set, before the Sequencer and the output law see it (R129). -/
def State.forced (s : State) (i : Ch) (f : Force) : State := s.setChan i { s.chans[i] with force := f }

theorem State.forced_get (s : State) (i : Ch) (f : Force) (j : Ch) :
    (s.forced i f).chans[j] = if j = i then { s.chans[i] with force := f } else s.chans[j] := s.setChan_get i _ j

theorem State.forced_same {s : State} {i : Ch} {f : Force} (same : s.chans[i].force = f) : s.forced i f = s := by
  rw [← same, State.forced, State.setChan]
  have stands : s.chans.set i { s.chans[i] with force := s.chans[i].force } = s.chans := Vector.set_getElem_self _
  rw [stands]

theorem State.setForce_moves (s : State) (i : Ch) (f : Force) : (s.forced i f).Moves (s.setForce i f) := by
  unfold State.setForce; split
  · rename_i same; rw [State.forced_same same]; exact .refl s
  · exact State.resolve_moves _

/-- A fitted channel forced ON is on exactly in NORMAL, and one forced OFF is off (R71, R130). -/
theorem Chan.law_forced {c : Chan} (fitted : c.cfg.fitted = true) :
    (c.force = .on → c.law = decide (c.prot = .normal)) ∧ (c.force = .off → c.law = false) := by
  constructor <;> intro force <;> simp [Chan.law, fitted, force]

/-- FORCE that is granted sets the force of its channel, and has the outputs settled (R129, R130). -/
theorem force_sets (dt : Nat) (tag : Byte) (s : State) (i : Ch) (f : Force) (hears : s.Hears) (law : s.OutputLaw)
    (fitted : s.chans[i].cfg.fitted = true) (install : s.power.install.deb = true) (running : s.power.st = .run) : ∃ t,
      exec (.force dt ⟨false, tag, u8 (i.val + 1) ++ u8 f.code⟩) s = .next t ∧
      t.chans[i].force = f ∧ (∀ j : Ch, j ≠ i → s.chans[j].Keeps t.chans[j]) ∧
      (t.chans[i].cfg = s.chans[i].cfg ∧ t.chans[i].demand = s.chans[i].demand ∧ t.chans[i].prot = s.chans[i].prot ∧
        t.chans[i].retries = s.chans[i].retries ∧ t.chans[i].usage = s.chans[i].usage) ∧
      (f = .on → t.chans[i].out = decide (s.chans[i].prot = .normal)) ∧ (f = .off → t.chans[i].out = false) ∧
      t.holds = s.holds ∧ s.Spares t ∧
      t.Replies 0x13 tag .ok (u8 (i.val + 1) ++ u8 f.code ++ u8 (bitIf t.chans[i].out 1)) := by
  have answer := ansForce_fitted (s := s.taken dt) (i := i) (by rw [State.taken_chans]; exact fitted) f
  rw [State.taken_power, if_neg (by rw [install]; decide), if_neg (by rw [running]; decide)] at answer
  have runs := State.request_answered s dt 0x13 tag _ ansForce hears (by decide) answer
  have moves := (s.taken dt).setForce_moves i f
  have settled := (State.lawful_iff _).1 (((s.taken dt).setForce_runs i f).lawful (State.lawful_taken hears law dt)) i
  generalize (s.taken dt).setForce i f = t at runs moves settled
  have chan (j : Ch) := moves.chans j
  simp only [State.forced_get, State.taken_chans] at chan
  have own := chan i
  rw [if_pos rfl] at own
  obtain ⟨on, off⟩ := Chan.law_forced (c := t.chans[i]) (by rw [own.cfg]; exact fitted)
  refine ⟨_, runs, ?_⟩
  simp only [State.accept, State.answered_chans, State.answered_holds]
  refine ⟨own.force, fun j apart => ?_, ⟨own.cfg, own.demand, own.prot, own.retries, own.usage⟩, fun isOn => ?_,
    fun isOff => ?_, moves.holds.trans (s.taken_holds dt), State.Spares.answered (.of_taken (dt := dt) ?_) _ _ _ _,
    State.answered_replies _ _ _ _ _⟩
  · have moved := chan j
    rw [if_neg apart] at moved
    exact moved.keeps
  · rw [settled, on (own.force.trans isOn), own.prot]
  · rw [settled, off (own.force.trans isOff)]
  · exact (State.setChan_spares _ _ _).trans moves.spares

/-- Settles O29: the checks of FORCE in their order (`ansForce_fitted`), and what it sets where they are passed (`force_sets`). -/
theorem forceSetsOneChannel : Obligations.ForceSetsOneChannel := by
  intro dt tag s i f hears law fitted request
  have answer := ansForce_fitted (s := s.taken dt) (i := i) (by rw [State.taken_chans]; exact fitted) f
  rw [State.taken_power] at answer
  refine ⟨fun denied => ?_, fun install dozing => ?_, force_sets dt tag s i f hears law fitted⟩
  · rw [if_pos denied] at answer
    exact State.request_answered s dt 0x13 tag _ ansForce hears (by decide) answer
  · rw [if_neg (by rw [install]; decide), if_pos dozing] at answer
    exact State.request_answered s dt 0x13 tag _ ansForce hears (by decide) answer

/-! ### LINK_QUIET (R132, R153) -/

/-- The part with the 5 s of link quiet handed over, before any force lapses (R153). -/
def State.handsQuiet (s : State) : State := s.onLink fun l => { l with quietHanded := true }

theorem exec_linkQuiet (dt : Nat) (s : State) (awake : s.inReset = none) (unquiet : s.link.quietHanded = false)
    (quiet : s.link.quietStart + 5 * Config.unitsPerSecond ≤ s.now + dt) :
    exec (.linkQuiet dt) s = .next (s.elapse dt).handsQuiet.lapse := by
  have long : Config.quietLimit ≤ (s.elapse dt).quietFor := Nat.le_sub_of_add_le (by rw [Nat.add_comm]; exact quiet)
  refine (State.event_eq s dt _ awake).trans (congrArg _ (if_pos ⟨?_, long⟩))
  rw [State.elapse_link, unquiet]; rfl

/-- A lapse clears the forces, and settles the outputs where it found one (R132). -/
theorem State.lapse_moves (s : State) : s.clearForces.Moves s.lapse := by
  unfold State.lapse; split
  · exact (State.report_moves _ _ _).trans (State.resolve_moves _)
  · rename_i unforced
    have unset := (s.anyForce_eq_false).1 (eq_false_of_ne_true unforced)
    have same : s.clearForces = s := s.mapChans_eq_self _ fun i => by simp only [← unset i]
    rw [same]; exact .refl s

/-- Settles O51: LINK_QUIET hands the link quiet over and lapses the forces (`exec_linkQuiet`), which does nothing where there is none
(`State.lapse_none`), and clears them with the outputs settled otherwise (`State.lapse_moves`, `State.lapse_runs`). -/
theorem forcesLapseAtLinkQuiet : Obligations.ForcesLapseAtLinkQuiet := by
  intro dt s awake law unquiet quiet link
  have runs := exec_linkQuiet dt s awake unquiet quiet
  refine ⟨fun unforced => ?_, ?_⟩
  · have idle : (s.elapse dt).handsQuiet.lapse = (s.elapse dt).handsQuiet :=
      State.lapse_none _ ((State.anyForce_eq_false _).2 unforced)
    rw [runs, idle]; rfl
  · have moves := (s.elapse dt).handsQuiet.lapse_moves
    have hands : (s.elapse dt).Runs (s.elapse dt).handsQuiet := (State.onLink_keepsLoads _ _).runs
    have lawful := (State.lawful_iff _).1 ((hands.trans (State.lapse_runs _)).lawful (State.elapse_lawful awake law dt))
    refine ⟨_, runs, moves.link, moves.holds, ?_, fun i => ?_⟩
    · refine ((s.elapse_spares dt).trans ?_).trans moves.spares
      constructor <;> simp [State.handsQuiet]
    · have chan := moves.chans i
      rw [State.clearForces_get] at chan
      exact ⟨chan.force, lawful i, chan.cfg, chan.demand, chan.prot, chan.usage⟩

end Sys2Proof.Machine
end

section
/-! PROOFS. What acts during a reset, and what begins one. -/

namespace Sys2Proof.Machine

/-! ### A reset in progress (R144) -/

/-- A request during a reset only lets the time pass (R144). -/
theorem State.request_reset (s : State) (dt kind : Nat) (r : Req) (f : List Nat → State → Answer)
    (h : s.inReset.isSome = true) : s.request dt kind r f = .next (s.elapse dt) := s.event_reset dt _ h

/-- Settles O17: every request and every other event but those excluded waits for the part to be awake
(`State.request_reset`, `State.event_reset`). -/
theorem nothingMovesDuringAReset : Obligations.NothingMovesDuringAReset := by
  intro c s reset notPower notSupply notPin notEnd notRaw
  cases c
  case powerOn dt => exact absurd rfl (notPower dt)
  case supplyLow dt => exact absurd rfl (notSupply dt)
  case rstn dt => exact absurd rfl (notPin dt)
  case resetEnd dt adr br => exact absurd rfl (notEnd dt adr br)
  case rawInputChange dt i low => exact absurd rfl (notRaw dt i low)
  case ident | status | loadStatus | linkStatus | countersRead | measure | switch | hold | releaseHold | force | clearTrip |
      clearUsage | ack | mask | countersClear | clearLinkCounts | profileRead | profileWriteBattery | profileWriteTiers |
      profileWriteLoads | profileWriteCurve | profileWriteSequence | profileWriteNotice | profileWriteCounters |
      profileWriteDoze | move | save | loadDefaults | setChargeReserve | setChargeFull | doze | restart =>
    exact s.request_reset _ _ _ _ reset
  case startBit | characterTaken | breakHeld | gap | replyStart | replyEnd | linkQuiet | scanBegin | scanComplete |
      debouncedChange | retryExpiry | goodRun | runLockExpiry | restLockExpiry | blankingEnd | shedSpacingEnd |
      restoreSpacingEnd | settleTimeEnd | holdExpiry | saveEnd =>
    exact s.event_reset _ _ reset

/-! ### The start of a reset (R91, R134, R142, R144, R164) -/

/-- A source that acts outside a reset begins one, in which it alone has acted (R142). -/
theorem State.resetBy_halts (s : State) (src : ResetSource) (awake : s.inReset = none) :
    s.Halts (s.resetBy src) (ResetInfo.act ⟨false, false, false, s.anyForce⟩ src) := by
  have begins : s.resetBy src =
      { s.startReset with inReset := some (ResetInfo.act ⟨false, false, false, s.anyForce⟩ src) } := by
    simp only [State.resetBy, awake]; rfl
  rw [begins]
  exact ⟨rfl, rfl, fun i => by simp [State.startReset], rfl, rfl, rfl, rfl, rfl, rfl, rfl, rfl, rfl, rfl, rfl⟩

/-- What the start of a reset leaves does not rest on the link as it stood (R144). -/
theorem State.resetBy_onLink_halts (s : State) (f : Link → Link) (src : ResetSource) (awake : s.inReset = none) :
    s.Halts ((s.onLink f).resetBy src) (ResetInfo.act ⟨false, false, false, s.anyForce⟩ src) :=
  have h := (s.onLink f).resetBy_halts src awake
  ⟨h.now, h.inReset, h.outputs, h.scanner, h.power, h.link, h.notices, h.store, h.others⟩

/-- Settles O43: outside a reset each source begins one (`State.resetBy_halts`), and within one it is recorded alone
(`State.resetBy_again`). -/
theorem eachSourceBeginsOrProlongsAReset : Obligations.EachSourceBeginsOrProlongsAReset := by
  intro dt s u found
  refine ⟨fun awake => ?_, fun r reset => ?_⟩
  · exact ⟨⟨_, rfl, State.resetBy_halts u .powerOn awake⟩, ⟨_, rfl, State.resetBy_halts u .supply awake⟩,
      ⟨_, rfl, State.resetBy_halts u .pin awake⟩⟩
  · have prolongs (src : ResetSource) := (s.elapse dt).resetBy_again src r reset
    exact ⟨congrArg _ (prolongs .powerOn), congrArg _ (prolongs .supply), congrArg _ (prolongs .pin)⟩

end Sys2Proof.Machine
end

section
/-! PROOFS. DOZE and RESTART. -/

namespace Sys2Proof.Machine

/-- The character of the reply to DOZE (R138). -/
theorem State.dozeField_eq (s : State) : s.dozeField = [if s.power.st = .doze then 1 else 0] := by
  by_cases doze : s.power.st = .doze <;> simp [State.dozeField, u8, bitIf, doze]

/-- A DOZE_ENTRY, which has no number, is counted by the counters that select it with qualifier 0 (R165). -/
theorem Counter.count_dozeEntry (c : Counter) (h : c.value ≤ Config.totalMax) : c.count .dozeEntry [0] =
    if c.sel.kind = .dozeEntry ∧ c.sel.qualifier = 0 ∧ c.sel.inhibit = false
    then { c with value := min Config.totalMax (c.value + 1) } else c := by
  have counts : c.sel.counts .dozeEntry 0 = true ↔
      c.sel.kind = .dozeEntry ∧ c.sel.qualifier = 0 ∧ c.sel.inhibit = false := by
    simp only [Selector.counts, Bool.and_eq_true, Bool.or_eq_true, Bool.not_eq_true', decide_eq_true_eq, or_self]
    refine ⟨fun ⟨⟨⟨kind, _⟩, all⟩, free⟩ => ⟨kind, all, free⟩, fun ⟨kind, all, free⟩ => ⟨⟨⟨kind, ?_⟩, all⟩, free⟩⟩
    rw [kind]; decide
  unfold Counter.count
  split
  · rename_i counted; simp [counts.2 counted]
  · rename_i passed; simp [mt counts.1 passed, Nat.min_eq_right h]

/-- The entry to DOZE sets the power state and counts one DOZE_ENTRY (R137, R165). -/
theorem State.enterDoze_eq (s : State) (h : ∀ k : Fin 8, s.tally[k].value ≤ Config.totalMax) : s.enterDoze =
    { s with
      power := { s.power with st := .doze }
      tally := Vector.ofFn fun k : Fin 8 =>
        if s.tally[k].sel.kind = .dozeEntry ∧ s.tally[k].sel.qualifier = 0 ∧ s.tally[k].sel.inhibit = false
        then { s.tally[k] with value := min Config.totalMax (s.tally[k].value + 1) } else s.tally[k] } := by
  simp only [State.enterDoze, State.reportIf, State.report, if_true, ← Counter.count_dozeEntry _ (h _)]

/-! ### The answers (R138, R143) -/

theorem ansDoze_saving {s : State} (saving : s.isSaving = true) : ansDoze [] s = s.refuse .busy := by
  simp [ansDoze, State.whenIdle, saving]

theorem ansDoze_forced {s : State} (idle : s.isSaving = false) (forced : s.anyForce = true) :
    ansDoze [] s = s.accept .notApplicable [if s.power.st = .doze then 1 else 0] := by
  simp [ansDoze, State.whenIdle, idle, forced, State.dozeField_eq]

theorem ansDoze_enters {s : State} (idle : s.isSaving = false) (unforced : s.anyForce = false) :
    ansDoze [] s = s.enterDoze.accept .ok [1] := by
  simp [ansDoze, State.whenIdle, idle, unforced, State.dozeField_eq, State.enterDoze_power]

theorem State.anyForce_eq_true (s : State) : s.anyForce = true ↔ ∃ i : Ch, s.chans[i].force ≠ .none := by
  rw [← not_iff_not, Bool.not_eq_true, s.anyForce_eq_false, not_exists]
  exact forall_congr' fun _ => not_not.symm

/-- An addressed RESTART is answered OK, with the warm reset after its reply (R143). -/
theorem exec_restart (dt : Nat) (tag : Byte) (s : State) (hears : s.Hears) :
    exec (.restart dt ⟨false, tag, []⟩) s = .next ((s.taken dt |>.accept .ok []).prepare 0x41 tag true) :=
  State.request_eq s dt 0x41 _ ansRestart hears

/-- Settles O42: the checks of DOZE in their order (`ansDoze_saving`, `ansDoze_forced`, `ansDoze_enters`), what its entry leaves
(`State.enterDoze_eq`), and the reply of RESTART (`exec_restart`). -/
theorem dozeAndRestartAreServed : Obligations.DozeAndRestartAreServed := by
  intro dt tag s hears u
  have answers {a : Answer} (h : ansDoze [] u = a) := State.request_answered s dt 0x40 tag [] ansDoze hears (by decide) h
  have forces : u.anyForce = s.anyForce := s.taken_anyForce dt
  have saves : u.isSaving = s.isSaving := s.taken_isSaving dt
  have power : u.power = s.power := s.taken_power dt
  have tally : u.tally = s.tally := s.taken_tally dt
  refine ⟨fun saving => ?_, fun idle forced => ?_, fun idle unforced ceilings => ?_, _, exec_restart dt tag s hears, ?_⟩
  · exact answers (ansDoze_saving (saves.trans saving))
  · have refused := answers (ansDoze_forced (saves.trans idle) (forces.trans (s.anyForce_eq_true.2 forced)))
    rw [power] at refused; exact refused
  · have entered := answers (ansDoze_enters (saves.trans idle) (forces.trans (s.anyForce_eq_false.2 unforced)))
    rw [State.enterDoze_eq u (by rw [tally]; exact ceilings), power, tally] at entered
    exact entered
  · rfl

end Sys2Proof.Machine
end

section
/-! PROOFS. The end of DOZE, and the falls of the line. -/

namespace Sys2Proof.Machine

/-! ### The end of DOZE (R6, R137, R141) -/

/-- What the end of DOZE changes: the power state with the moment of the exit, the scanner, and the flag that the beginning of a
scan sets in each channel. -/
structure State.Wakes (s t : State) : Prop where
  rest : t = { s with power := t.power, scanner := t.scanner, chans := t.chans }
  power : t.power =
    { s.power with st := .run, lastExit := if s.power.st = .doze then s.now else s.power.lastExit }
  chans : ∀ i : Ch, t.chans[i] = { s.chans[i] with onBefore := t.chans[i].onBefore }

namespace State.Wakes
variable {s t : State}

theorem now (h : s.Wakes t) : t.now = s.now := by rw [h.rest]
theorem est (h : s.Wakes t) : t.est = s.est := by rw [h.rest]
theorem tiers (h : s.Wakes t) : t.tiers = s.tiers := by rw [h.rest]
theorem seq (h : s.Wakes t) : t.seq = s.seq := by rw [h.rest]
theorem holds (h : s.Wakes t) : t.holds = s.holds := by rw [h.rest]
theorem link (h : s.Wakes t) : t.link = s.link := by rw [h.rest]
theorem notices (h : s.Wakes t) : t.notices = s.notices := by rw [h.rest]
theorem tally (h : s.Wakes t) : t.tally = s.tally := by rw [h.rest]
theorem store (h : s.Wakes t) : t.store = s.store := by rw [h.rest]

theorem keeps (h : s.Wakes t) (i : Ch) : s.chans[i].Keeps t.chans[i] := by
  rw [h.chans i]; exact ⟨rfl, rfl, rfl, rfl, rfl, rfl, rfl⟩

end State.Wakes

theorem State.exitDoze_wakes (s : State) : s.Wakes s.exitDoze := by
  cases st : s.power.st with
  | run =>
    rw [s.exitDoze_run (by rw [st]; decide)]
    exact ⟨rfl, by rw [if_neg (by rw [st]; decide), ← st], fun _ => rfl⟩
  | doze =>
    refine ⟨?_, by rw [s.exitDoze_power st, if_pos st], fun i => ?_⟩ <;> simp only [State.exitDoze, if_pos st] <;> split
    · simp [State.beginScan, State.mapChans]
    · rfl
    · rw [State.beginScan_get]
    · rfl

/-- With no scan in flight the end of DOZE begins a RUN scan, and otherwise it only stops the scan timer (R6). -/
theorem State.exitDoze_scanner (s : State) (doze : s.power.st = .doze) : s.exitDoze.scanner =
    if s.scanner.inFlight = none then
      { s.scanner with
        inFlight := some ⟨.run, Vector.ofFn fun i : Ch => s.chans[i].cfg.fitted, s.now⟩
        timer := some (s.now + 100 * Config.unitsPerMs) }
    else { s.scanner with timer := none } := by
  simp only [State.exitDoze, if_pos doze, Option.isNone_iff_eq_none]
  split
  · simp [State.beginScan, State.planNow, State.fitted, PowerState.periodMs]
  · rfl

/-- The end of DOZE neither rests on the link nor changes it (R141). -/
theorem State.exitDoze_onLink (s : State) (f : Link → Link) : (s.onLink f).exitDoze = s.exitDoze.onLink f := by
  simp only [State.exitDoze, apply_ite (State.onLink · f)]; rfl

/-! ### A fall of the line (R147, R154) -/

/-- The reply in preparation is dropped, and counted when there is one (R154). -/
def Link.dropped (l : Link) : Link :=
  { l with
    reply := none
    counts := { l.counts with dropped := if l.reply.isSome then min 65535 (l.counts.dropped + 1) else l.counts.dropped } }

/-- A character begins at a moment when its start bit reads space, which stops the gap timer (R147, R152). -/
def Link.begun (l : Link) (now bit : Nat) (x : Sample3) : Link :=
  { l with
    charFall := if !majority x then some now else none
    charNoise := !majority x && disagrees x
    spaceFall := none
    falseEnd := if !majority x then none else some (now + 9 * (bit / 16))
    gapEnd := if !majority x then none else l.gapEnd }

theorem State.dropReply_eq (s : State) : s.dropReply = s.onLink Link.dropped := by
  unfold State.dropReply State.onLink Link.dropped
  split
  · rfl
  · rename_i idle
    have none' : s.link.reply = none := by simpa using idle
    rw [← none']

theorem State.beginChar_eq (s : State) (x : Sample3) :
    s.beginChar x = s.onLink fun l => l.begun s.now s.power.bitTime x := by
  unfold State.beginChar State.onLink Link.begun
  cases majority x <;> rfl

/-- A fall that brings no reset ends DOZE, and drops the reply and begins its character on the link (R141, R147, R154). -/
theorem State.fall_eq (s : State) (x : Sample3) (stays : s.link.reply.any Reply.thenReset = false) :
    s.fall x = s.exitDoze.onLink fun l => l.dropped.begun s.now s.power.bitTime x := by
  have wakes := s.exitDoze_wakes
  have bit : s.exitDoze.power.bitTime = s.power.bitTime := by rw [wakes.power]; rfl
  rw [State.fall, if_neg (by rw [stays]; decide), s.dropReply_eq, s.exitDoze_onLink, State.beginChar_eq]
  simp only [State.onLink, wakes.now, bit]

/-- With a RESTART's reply in preparation a fall begins the warm reset (R143). -/
theorem State.fall_halts (s : State) (x : Sample3) (awake : s.inReset = none)
    (restarts : s.link.reply.any Reply.thenReset = true) : s.Halts (s.fall x) ⟨false, false, false, s.anyForce⟩ := by
  rw [State.fall, if_pos restarts, s.dropReply_eq]
  exact s.resetBy_onLink_halts Link.dropped .request awake

/-- The receiver reads a character or the start bit of a false start exactly until its end (R147). -/
theorem State.reading_iff (s : State) : s.reading = true ↔
    (∃ fall, s.link.charFall = some fall ∧ s.now < fall + 10 * s.power.bitTime + s.power.bitTime / 2) ∨
    ∃ e, s.link.falseEnd = some e ∧ s.now < e := by
  simp only [State.reading, Bool.or_eq_true, Option.any_eq_true, decide_eq_true_eq]; rfl

theorem exec_startBit (dt : Nat) (x : Sample3) (s : State) (awake : s.inReset = none) (receiving : s.link.rx ≠ .send) :
    exec (.startBit dt x) s = .next (if (s.elapse dt).reading then s.elapse dt else (s.elapse dt).fall x) := by
  rw [exec, execStartBit, s.event_eq dt _ awake, State.elapse_link]
  simp only [receiving, false_or]

/-- Settles O45: within what the receiver reads a fall begins nothing (`exec_startBit`, `State.reading_iff`); outside it ends DOZE
and begins its character (`State.fall_eq`, with `State.exitDoze_wakes` and `State.exitDoze_scanner`), or begins the reset of a
RESTART (`State.fall_halts`). -/
theorem aStartBitBeginsACharacter : Obligations.AStartBitBeginsACharacter := by
  intro dt x s awake receiving now bit fresh space counts link
  have runs := exec_startBit dt x s awake receiving
  have falls (outside : fresh) : exec (.startBit dt x) s = .next ((s.elapse dt).fall x) := by
    rw [runs, (s.elapse dt).reading_eq_false outside.1 outside.2]; rfl
  refine ⟨fun within => ?_, fun outside stays run => ?_, fun outside stays doze => ?_, fun outside restarts => ?_⟩
  · rw [runs, if_pos ((s.elapse dt).reading_iff.2 within)]; rfl
  · rw [falls outside, (s.elapse dt).fall_eq x stays, State.exitDoze_run _ (by simp [run])]; rfl
  · have wakes := (s.elapse dt).exitDoze_wakes
    have scanner := (s.elapse dt).exitDoze_scanner doze
    rw [falls outside, (s.elapse dt).fall_eq x stays]
    refine ⟨_, rfl, ?_, (s.elapse dt).exitDoze_power doze, fun idle => ?_, fun flying => ?_, wakes.chans, wakes.est,
      wakes.tiers, wakes.seq, wakes.holds, wakes.notices, wakes.tally, wakes.store⟩
    · exact congrArg (fun l => l.dropped.begun now bit x) wakes.link
    · exact scanner.trans (if_pos idle)
    · exact scanner.trans (if_neg (Option.ne_none_iff_isSome.2 flying))
  · exact ⟨_, falls outside, (s.elapse dt).fall_halts x awake restarts⟩

end Sys2Proof.Machine
end

section
/-! PROOFS. A reply on the line, and its end. -/

namespace Sys2Proof.Machine

/-! ### The frame of a reply (R150, R151, R156) -/

/-- A frame that is not empty has its mark bit set on its first character alone (R147, R150). -/
theorem lineChars_getElem? (l : List Byte) (n : Nat) :
    (lineChars l)[n]? = (l[n]?).map fun d => ⟨decide (n = 0), d⟩ := by
  cases l with
  | nil => rfl
  | cons a rest => cases n <;> simp [lineChars]

/-- The eleven levels of a character by their place (R147). -/
theorem LineChar.levels_getElem? (c : LineChar) (n : Nat) (h : n < 11) : c.levels[n]? = some
    (if n = 0 then false else if n = 9 then c.mark else if n = 10 then true else c.data.getLsbD (n - 1)) := by
  interval_cases n <;> rfl

/-- The level of bit `k` of a frame on the line (R147, R150). -/
def frameLevel (frame : List Byte) (k : Nat) : Bool :=
  if k % 11 = 0 then false else if k % 11 = 9 then decide (k / 11 = 0) else if k % 11 = 10 then true
  else ((frame[k / 11]?).map fun d => d.getLsbD (k % 11 - 1)).getD true

theorem lineChars_level (frame : List Byte) (k : Nat) (h : k < 11 * frame.length) :
    ((lineChars frame).flatMap LineChar.levels)[k]? = some (frameLevel frame k) := by
  have within : k / 11 < frame.length := Nat.div_lt_of_lt_mul h
  have place : k % 11 < 11 := Nat.mod_lt k (by decide)
  rw [levels_getElem?, lineChars_getElem?, List.getElem?_eq_getElem within]
  simp only [Option.map_some, Option.bind_some, LineChar.levels_getElem? _ _ place, frameLevel,
    List.getElem?_eq_getElem within, Option.getD_some]

theorem Power.bitTime_pos (p : Power) : 0 < p.bitTime := by
  have divisor : 0 < p.divisor := by unfold Power.divisor; split <;> decide
  exact Nat.mul_pos (by decide) divisor

/-- LTX carries bit `k` of a frame from its start, a bit time each (R147, R154). -/
theorem State.ltx_bit (s : State) (x : Sending) (frame : List Byte) (k rest : Nat) (sends : s.link.sending = some x)
    (chars : x.chars = lineChars frame) (now : s.now = x.began + k * s.power.bitTime + rest)
    (within : k < 11 * frame.length) (part : rest < s.power.bitTime) : s.ltx = frameLevel frame k := by
  have bit : (s.now - x.began) / s.power.bitTime = k := by
    rw [now, Nat.add_assoc, Nat.add_sub_cancel_left, Nat.mul_comm, Nat.mul_add_div s.power.bitTime_pos,
      Nat.div_eq_of_lt part, Nat.add_zero]
  simp only [State.ltx, sends, bit, Sending.levels, chars, lineChars_level frame k within, Option.getD_some]

/-! ### REPLY_START and REPLY_END (R154) -/

/-- What goes out from a moment of a reply in preparation (R147, R150, R154). -/
def Reply.sent (r : Reply) (unit now bit : Nat) : Sending :=
  { chars := lineChars (r.frame unit), began := now, done := now + (r.payload.length + 7) * 11 * bit,
    thenReset := r.thenReset }

theorem exec_replyStart (dt : Nat) (s : State) (r : Reply) (awake : s.inReset = none) (receiving : s.link.rx ≠ .send)
    (reply : s.link.reply = some r) (due : r.earliest ≤ s.now + dt) : exec (.replyStart dt) s = .next { s with
      now := s.now + dt
      link := { s.link with
        rx := .send, buffer := [], gapEnd := none, reply := none, charFall := none, charNoise := false
        sending := some (r.sent s.power.unitAddress (s.now + dt) s.power.bitTime) } } := by
  rw [exec, execReplyStart, s.event_eq dt _ awake, State.elapse_link, reply]
  dsimp only
  rw [if_pos ⟨receiving, due⟩, Reply.sent, length_lineChars, Reply.length_frame, Nat.mul_comm 11]
  rfl

theorem exec_replyEnd (dt : Nat) (s : State) (x : Sending) (awake : s.inReset = none) (sending : s.link.rx = .send)
    (sends : s.link.sending = some x) (due : x.done ≤ s.now + dt) : exec (.replyEnd dt) s = .next
      (let t := (s.elapse dt).onLink fun l => { l with rx := .wait, sending := none }
      if x.thenReset then t.resetBy .request else t) := by
  rw [exec, execReplyEnd, s.event_eq dt _ awake, State.elapse_link, sends]
  dsimp only
  rw [if_pos ⟨sending, due⟩]

/-- Settles O50: what goes out at the start of a reply (`exec_replyStart`), its level on LTX bit by bit (`State.ltx_bit`), and its
end, with the reset of a RESTART (`exec_replyEnd`, `State.resetBy_halts`). -/
theorem repliesGoOutWhole : Obligations.RepliesGoOutWhole := by
  intro dt s awake
  refine ⟨?_, fun x sending sends due => ⟨fun stays => ?_, fun restarts => ?_⟩, s.ltx_idle⟩
  · intro r receiving reply due body frame bit
    have whole : r.frame s.power.unitAddress = frame := by
      have address : 0x80 + s.power.unitAddress = 0x81 + s.power.adr.toNat := by unfold Power.unitAddress; omega
      rw [Reply.frame, address]
    have chars : lineChars frame = ⟨true, BitVec.ofNat 8 (0x81 + s.power.adr.toNat)⟩ :: frame.tail.map fun d => ⟨false, d⟩ :=
      rfl
    refine ⟨_, exec_replyStart dt s r awake receiving reply due, ?_, fun k rest within part => ?_⟩
    · rw [Reply.sent, whole, chars]
    · exact State.ltx_bit _ _ frame k rest rfl (congrArg lineChars whole) rfl within part
  · rw [exec_replyEnd dt s x awake sending sends due, stays]; rfl
  · refine ⟨_, exec_replyEnd dt s x awake sending sends due, ?_⟩
    rw [restarts]
    exact (s.elapse dt).resetBy_onLink_halts _ .request awake

end Sys2Proof.Machine
end

section
/-! PROOFS. The discrete inputs. -/

namespace Sys2Proof.Machine

/-! ### The inputs of Power Control (R135) -/

theorem Power.pin_setPin (p : Power) (i j : Input) (x : Pin) : (p.setPin i x).pin j = if j = i then x else p.pin j := by
  cases i <;> cases j <;> rfl

/-- The end of DOZE changes no input (R137). -/
theorem Power.pin_woken (p : Power) (st : PowerState) (exit : Nat) (j : Input) :
    Power.pin { p with st := st, lastExit := exit } j = p.pin j := by cases j <;> rfl

@[simp] theorem Power.setPin_st (p : Power) (i : Input) (x : Pin) : (p.setPin i x).st = p.st := by cases i <;> rfl
@[simp] theorem Power.setPin_lastExit (p : Power) (i : Input) (x : Pin) : (p.setPin i x).lastExit = p.lastExit := by
  cases i <;> rfl

/-! ### A change of SHORE or IGN (R51, R52, R136) -/

/-- With a source present a tier whose flag is set is SUPPRESSED, and one that was not starts at streak 0 (R51). -/
theorem TierRecord.suppression_begins (r : TierRecord) (measured : r.cfg.measure ≠ .off) (flag : r.cfg.suppress = true) :
    (r.suppression true).st = .suppressed ∧ (r.st ≠ .suppressed → (r.suppression true).streak = 0) := by
  rw [TierRecord.suppression, if_neg measured, if_pos (by rw [flag]; rfl)]
  split
  · rename_i already; exact ⟨already, fun fresh => absurd already fresh⟩
  · exact ⟨rfl, fun _ => rfl⟩

/-- With no source present a SUPPRESSED tier is CLEAR again, at streak 0 (R52). -/
theorem TierRecord.suppression_ends (r : TierRecord) (measured : r.cfg.measure ≠ .off) (suppressed : r.st = .suppressed) :
    (r.suppression false).st = .clear ∧ (r.suppression false).streak = 0 := by
  rw [TierRecord.suppression, if_neg measured, if_neg (by simp), if_pos suppressed]
  exact ⟨rfl, rfl⟩

/-- The Tier Monitor forms its suppression, and the Sequencer moves when it is handed a change (R51, R59). -/
theorem State.sourceChanged_moves (s : State) :
    State.Moves { s with tiers := s.tiers.suppression s.sourcePresent } s.sourceChanged := by
  unfold State.sourceChanged
  dsimp only; split
  · exact State.resolve_moves _
  · exact .refl _

/-- What a debounced change of SHORE or IGN makes of the part, in whichever order DOZE ends and the tiers are suppressed: the
INPUT notice, the part in RUN, and the suppression by the inputs as they stand (R51, R136). -/
structure State.TakesSource (s t : State) : Prop where
  notices : t.notices = s.notices.edge .input true
  power : t.power =
    { s.power with st := .run, lastExit := if s.power.st = .doze then s.now else s.power.lastExit }
  tiers : t.tiers = s.tiers.suppression s.sourcePresent
  link : t.link = s.link
  est : t.est = s.est
  store : t.store = s.store
  holds : t.holds = s.holds
  chans : ∀ i : Ch, s.chans[i].Keeps t.chans[i]

theorem State.sourceInput_takes (s : State) (first : Bool) : s.TakesSource (s.sourceInput first) := by
  let u : State := { s with notices := s.notices.edge .input true }
  cases first
  · have moves := u.sourceChanged_moves
    have wakes := u.sourceChanged.exitDoze_wakes
    have power := wakes.power
    rw [moves.power, moves.now] at power
    exact {
      notices := wakes.notices.trans moves.notices
      power := power
      tiers := wakes.tiers.trans moves.tiers
      link := wakes.link.trans moves.link
      est := wakes.est.trans moves.est
      store := wakes.store.trans moves.store
      holds := wakes.holds.trans moves.holds
      chans := fun i => ((moves.chans i).keeps).trans (wakes.keeps i) }
  · have wakes := u.exitDoze_wakes
    have moves := u.exitDoze.sourceChanged_moves
    have tiers := moves.tiers
    rw [u.exitDoze_keepsTiers.source, wakes.tiers] at tiers
    exact {
      notices := moves.notices.trans wakes.notices
      power := moves.power.trans wakes.power
      tiers := tiers
      link := moves.link.trans wakes.link
      est := moves.est.trans wakes.est
      store := moves.store.trans wakes.store
      holds := moves.holds.trans wakes.holds
      chans := fun i => (wakes.keeps i).trans ((moves.chans i).keeps) }

/-! ### A change of INSTALL (R132, R136) -/

/-- What a debounced change of INSTALL makes of the part: to de-asserted it clears every force, and to asserted it changes no
channel (R132, R136). -/
structure State.TakesInstall (s t : State) : Prop where
  notices : t.notices = s.notices
  power : t.power = s.power
  tiers : t.tiers = s.tiers
  scanner : t.scanner = s.scanner
  link : t.link = s.link
  est : t.est = s.est
  store : t.store = s.store
  holds : t.holds = s.holds
  released : s.power.install.deb = false → ∀ k : Ch, t.chans[k].force = .none
  asserted : s.power.install.deb = true → t.chans = s.chans

theorem State.installInput_takes (s : State) : s.TakesInstall s.installInput := by
  unfold State.installInput
  split
  · rename_i asserted
    exact ⟨rfl, rfl, rfl, rfl, rfl, rfl, rfl, rfl, fun released => absurd asserted (by rw [released]; decide),
      fun _ => rfl⟩
  · rename_i released
    have moves := s.lapse_moves
    exact {
      notices := moves.notices.trans s.clearForces_notices
      power := moves.power.trans s.clearForces_power
      tiers := moves.tiers.trans s.clearForces_tiers
      scanner := moves.scanner.trans s.clearForces_scanner
      link := moves.link.trans s.clearForces_link
      est := moves.est.trans s.clearForces_est
      store := moves.store.trans s.clearForces_store
      holds := moves.holds.trans s.clearForces_holds
      released := fun _ => s.lapse_unforced
      asserted := fun asserted => absurd asserted released }

/-! ### DEBOUNCED_CHANGE (R135, R136) -/

theorem exec_debouncedSource (dt e : Nat) (i : Input) (first : Bool) (s : State) (source : i ≠ .install)
    (awake : s.inReset = none) (timer : (s.power.pin i).timer = some e) (due : e ≤ s.now + dt) :
    exec (.debouncedChange dt i first) s = .next (((s.elapse dt).takeLevel i).sourceInput first) := by
  have expired : reached (s.elapse dt).now ((s.elapse dt).power.pin i).timer = true := by
    rw [State.elapse_power, timer]; exact decide_eq_true due
  rw [exec, execDebouncedChange, s.event_eq dt _ awake, if_pos expired]
  cases i with
  | shore | ign => rfl
  | install => exact absurd rfl source

theorem exec_debouncedInstall (dt e : Nat) (first : Bool) (s : State) (awake : s.inReset = none)
    (timer : s.power.install.timer = some e) (due : e ≤ s.now + dt) :
    exec (.debouncedChange dt .install first) s = .next ((s.elapse dt).takeLevel .install).installInput := by
  have expired : reached (s.elapse dt).now ((s.elapse dt).power.pin .install).timer = true := by
    rw [State.elapse_power, Power.pin, timer]; exact decide_eq_true due
  rw [exec, execDebouncedChange, s.event_eq dt _ awake, if_pos expired]

/-- The level that a debounced state takes, and the inputs that keep theirs (R135). -/
theorem State.takeLevel_pin (s : State) (i j : Input) : (s.takeLevel i).power.pin j =
    if j = i then ⟨(s.power.pin i).raw, (s.power.pin i).raw, none⟩ else s.power.pin j := Power.pin_setPin _ _ _ _

theorem exec_rawInputChange (dt : Nat) (i : Input) (low : Bool) (s : State) :
    exec (.rawInputChange dt i low) s = .next { s with
      now := s.now + dt
      power := s.power.setPin i (if s.inReset.isSome then { s.power.pin i with raw := low }
        else (s.power.pin i).raise (s.now + dt) low) } := rfl

/-- Settles O56: a raw level goes to its own input (`exec_rawInputChange`); at the expiry the input takes its level
(`State.takeLevel_pin`), and a change of INSTALL lapses the forces (`State.installInput_takes`), while one of SHORE or IGN ends
DOZE and forms the suppression (`State.sourceInput_takes`, `TierRecord.suppression_begins`, `TierRecord.suppression_ends`). -/
theorem inputsAreDebounced : Obligations.InputsAreDebounced := by
  intro dt i low first s x put
  refine ⟨fun reset => ?_, fun awake => ?_, fun e awake timer due => ?_⟩
  · rw [exec_rawInputChange, if_pos reset]
  · rw [exec_rawInputChange, if_neg (by rw [awake]; decide)]; rfl
  have level := (s.elapse dt).takeLevel_pin i
  have own := (level i).trans (if_pos rfl)
  have other (j : Input) (apart : j ≠ i) := (level j).trans (if_neg apart)
  by_cases install : i = .install
  · subst install
    have takes := ((s.elapse dt).takeLevel .install).installInput_takes
    refine ⟨_, exec_debouncedInstall dt e first s awake timer due, ?_, ?_, takes.link, takes.est, takes.store, takes.holds,
      fun _ => ⟨takes.notices, takes.tiers, takes.scanner, (congrArg Power.st takes.power).trans (Power.setPin_st _ _ _),
        takes.released, takes.asserted⟩,
      fun source => absurd rfl source⟩
    · rw [takes.power]; exact own
    · rw [takes.power]; exact other
  · obtain ⟨t, runs, takes⟩ : ∃ t, exec (.debouncedChange dt i first) s = .next t ∧
        ((s.elapse dt).takeLevel i).TakesSource t :=
      ⟨_, exec_debouncedSource dt e i first s install awake timer due, State.sourceInput_takes _ first⟩
    have pins (j : Input) := (congrArg (Power.pin · j) takes.power).trans (Power.pin_woken _ _ _ j)
    have st : ((s.elapse dt).takeLevel i).power.st = s.power.st := Power.setPin_st _ _ _
    have lastExit : ((s.elapse dt).takeLevel i).power.lastExit = s.power.lastExit := Power.setPin_lastExit _ _ _
    have source : ((s.elapse dt).takeLevel i).sourcePresent = (t.power.shore.deb || t.power.ign.deb) := by
      rw [takes.power]; rfl
    refine ⟨t, runs, (pins i).trans own, fun j apart => (pins j).trans (other j apart), takes.link, takes.est, takes.store,
      takes.holds, fun source => absurd source install, fun _ => ⟨?_, ?_, ?_, ?_, ?_, takes.chans, fun k => ?_, ?_⟩⟩
    · rw [takes.notices]; rfl
    · rw [takes.notices]; rfl
    · rw [takes.notices]; rfl
    · rw [takes.power]
    · rw [takes.power, st, lastExit]; rfl
    · rw [takes.tiers, TierMonitor.suppression_get, source]
      refine ⟨TierRecord.suppression_cfg _ _, TierRecord.suppression_conf _ _, fun measured flag present => ?_,
        fun measured suppressed absent => ?_⟩
      · rw [present]; exact TierRecord.suppression_begins _ measured flag
      · rw [absent]; exact TierRecord.suppression_ends _ measured suppressed
    · rw [takes.tiers]; rfl

end Sys2Proof.Machine
end

section
/-! PROOFS. The requests of the INSTALLER group that are refused, and the write of a start demand. -/

namespace Sys2Proof.Machine

/-! ### DENIED and BUSY (R156, R171, R173) -/

/-- The status with which the checks of access and of a save refuse: DENIED comes first (R156). -/
def State.gate (s : State) : Status := if s.power.install.deb = false then .denied else .busy

theorem State.whenInstaller_refused (s : State) (a : Answer) (shut : s.power.install.deb = false ∨ s.isSaving = true) :
    s.whenInstaller a = s.refuse s.gate := by
  rw [State.whenInstaller, State.gate]
  cases install : s.power.install.deb with
  | false => rfl
  | true =>
    have saving : s.isSaving = true := shut.resolve_left (by rw [install]; decide)
    simp [State.whenIdle, saving]

theorem State.whenIdle_refused (s : State) (a : Answer) (saving : s.isSaving = true) : s.whenIdle a = s.refuse .busy := by
  rw [State.whenIdle, if_pos saving]

theorem State.taken_gate (s : State) (dt : Nat) : (s.taken dt).gate = s.gate := by
  rw [State.gate, State.taken_power, State.gate]

/-- A handler judges a payload as a request of the INSTALLER group: it answers, whatever the part, by the checks of access and of a
save (R156). -/
def AsksInstaller (f : List Nat → State → Answer) (p : List Byte) : Prop :=
  ∀ s : State, ∃ a, f (p.map BitVec.toNat) s = s.whenInstaller a

/-- A request that the checks of access and of a save judge is refused by them (R156, R171, R173). -/
theorem State.request_gated (s : State) (dt kind : Nat) (tag : Byte) (p : List Byte) (f : List Nat → State → Answer)
    (hears : s.Hears) (below : kind < 0x41) (shut : s.power.install.deb = false ∨ s.isSaving = true)
    (asks : ∃ a, f (p.map BitVec.toNat) (s.taken dt) = (s.taken dt).whenInstaller a) :
    s.request dt kind ⟨false, tag, p⟩ f = .next ((s.taken dt).answered kind tag s.gate []) := by
  obtain ⟨a, answer⟩ := asks
  rw [State.whenInstaller_refused _ a (by rwa [State.taken_power, State.taken_isSaving]), State.taken_gate] at answer
  exact State.request_answered s dt kind tag p f hears below answer

/-! ### The requests of the group but the writes to LOADS (R33, R35, R38, R45, R100, R175) -/

theorem ansWriteBattery_asks (w : BatterySettings) : AsksInstaller ansWriteBattery w.field := fun _ => ⟨_, rfl⟩

theorem ansWriteCurve_asks (p : CurvePoint) : AsksInstaller ansWriteCurve (u8 0 ++ p.field) := fun _ => ⟨_, rfl⟩

theorem ansWriteSequence_asks (w : SequenceSettings) : AsksInstaller ansWriteSequence w.field := fun _ => ⟨_, rfl⟩

theorem ansLoadDefaults_asks : AsksInstaller ansLoadDefaults [] := fun _ => ⟨_, rfl⟩

theorem ansSetChargeReserve_asks (hi lo : Byte) : AsksInstaller ansSetChargeReserve [hi, lo] := fun _ => ⟨_, rfl⟩

theorem ansSetChargeFull_asks (hi lo : Byte) : AsksInstaller ansSetChargeFull [hi, lo] := fun _ => ⟨_, rfl⟩

/-- The codes of a tier record are defined, and those of the cutoff are not examined (R45). -/
theorem parseTier_codes (k : Fin 5) (w : TierSettings) (f f' u u' conf rel : Nat) :
    ∃ v, parseTier k w.measure.code f f' u u' conf rel (bitIf w.suppress 1) = some v := by
  unfold parseTier
  split
  · exact ⟨_, rfl⟩
  · rw [Measure.ofCode_code, flagOf_bitIf]; exact ⟨_, rfl⟩

theorem ansWriteTiers_asks (k : Fin 5) (w : TierSettings) : AsksInstaller ansWriteTiers (u8 (k.val + 1) ++ w.field) := by
  intro s
  have index : (k.val + 1) % 256 = k.val + 1 := by omega
  have code : w.measure.code % 256 = w.measure.code := by cases w.measure <;> rfl
  have flag : bitIf w.suppress 1 % 256 = bitIf w.suppress 1 := by cases w.suppress <;> rfl
  obtain ⟨v, parsed⟩ := parseTier_codes k w (w.falling / 256 % 256) (w.falling % 256) (w.rising / 256 % 256) (w.rising % 256)
    (w.confirm % 256) (w.release % 256)
  simp only [TierSettings.field, List.map_append, u8_map, u16_map, List.cons_append, List.nil_append, index, code, flag,
    ansWriteTiers]
  rw [dif_pos (by omega)]
  simp only [Nat.add_sub_cancel, Fin.eta, parsed]
  exact ⟨_, rfl⟩

/-! ### A write of one load record, before the checks (R66) -/

/-- Each setting of a load record fits the characters that carry it (R66). -/
structure LoadSettings.Fits (w : LoadSettings) : Prop where
  shedTier : w.shedTier < 256
  limit : w.limit < 65536
  tripCount : w.tripCount < 256
  blanking : w.blanking < 256
  retryCount : w.retryCount < 256
  retryDelay : w.retryDelay < 256
  minOn : w.minOn < 65536
  minOff : w.minOff < 65536
  openLevel : w.openLevel < 65536

/-- Settings within the ranges of R65 fit their characters. -/
theorem LoadSettings.fits_of_clamp {w : LoadSettings} (stands : w.clamp = w) : w.Fits := by
  have field {lo hi n m : Nat} (same : clampNat lo hi n = n) (range : lo ≤ hi) (short : hi < m) : n < m :=
    same ▸ (clampNat_range lo hi n range).2.trans_lt short
  exact {
    shedTier := field (congrArg LoadSettings.shedTier stands) (by decide) (by decide)
    limit := field (congrArg LoadSettings.limit stands) (by decide) (by decide)
    tripCount := field (congrArg LoadSettings.tripCount stands) (by decide) (by decide)
    blanking := field (congrArg LoadSettings.blanking stands) (by decide) (by decide)
    retryCount := field (congrArg LoadSettings.retryCount stands) (by decide) (by decide)
    retryDelay := field (congrArg LoadSettings.retryDelay stands) (by decide) (by decide)
    minOn := field (congrArg LoadSettings.minOn stands) (by decide) (by decide)
    minOff := field (congrArg LoadSettings.minOff stands) (by decide) (by decide)
    openLevel := field (congrArg LoadSettings.openLevel stands) (by decide) (by decide) }

theorem LoadSettings.touchesInstaller_self (w : LoadSettings) : w.touchesInstaller w = false :=
  decide_eq_false (not_not.2 rfl)

theorem LoadSettings.touchesInstaller_eq_true {old new : LoadSettings}
    (differs : { new with startDemand := old.startDemand } ≠ old) : old.touchesInstaller new = true := decide_eq_true differs

/-- The start demand is no INSTALLER field (R65). -/
theorem LoadSettings.touchesInstaller_startDemand (w : LoadSettings) (on : Bool) :
    w.touchesInstaller { w with startDemand := on } = false := decide_eq_false (not_not.2 rfl)

/-- A write of one record touches the INSTALLER fields of its own channel at most (R66). -/
theorem State.loadsAt_touches (s : State) (i : Ch) (w : LoadSettings) :
    (channels.any fun j => s.chans[j].cfg.touchesInstaller (s.loadsAt i w j)) = s.chans[i].cfg.touchesInstaller w := by
  have own : s.loadsAt i w i = w := if_pos rfl
  cases touches : s.chans[i].cfg.touchesInstaller w with
  | true => exact List.any_eq_true.2 ⟨i, List.mem_finRange i, by rw [own, touches]⟩
  | false =>
    refine List.any_eq_false.2 fun j _ => ne_true_of_eq_false ?_
    by_cases same : j = i
    · rw [same, own, touches]
    · rw [State.loadsAt, if_neg same, LoadSettings.touchesInstaller_self]

/-- A write of one record that can be read is judged by its INSTALLER fields (R66). -/
theorem ansWriteLoads_record (s : State) (i : Ch) (w : LoadSettings) (fits : w.Fits) :
    ansWriteLoads ((u8 (i.val + 1) ++ w.field).map BitVec.toNat) s =
      (let done := (s.setLoads (s.loadsAt i w.clamp)).accept (clampedIf (decide ¬w.clamp = w))
        (u8 (i.val + 1) ++ w.clamp.field)
      if s.chans[i].cfg.touchesInstaller w then s.whenInstaller done else s.whenIdle done) := by
  have read : parseLoad (w.field.map BitVec.toNat) = some w := by
    rw [w.field_numbers fits.shedTier fits.tripCount fits.blanking fits.retryCount fits.retryDelay]
    exact parseLoad_field w fits.limit fits.minOn fits.minOff fits.openLevel
  have length : (w.field.map BitVec.toNat).length = 16 := rfl
  have place : ¬(i.val + 1 = 0 ∨ 25 < i.val + 1 + 1) := by omega
  have stored : decide ([w.clamp] ≠ [w]) = decide ¬w.clamp = w := by simp
  rw [List.map_append, u8_number, List.singleton_append]
  generalize w.field.map BitVec.toNat = l at read length
  have one : l.length / 16 = 1 := by rw [length]
  simp only [ansWriteLoads, one, loadRows_one length]
  rw [if_neg (by decide), if_neg place]
  simp only [List.map_cons, List.map_nil, read, allSome, Option.map_some, List.flatMap_cons, List.flatMap_nil,
    List.append_nil, State.loadsWith_one, State.loadsAt_touches, stored]

/-! ### Settings that act on no shedding (R67) -/

/-- Such settings are stored, and change nothing else (R66, R67). -/
theorem State.setLoads_still (s : State) (new : Ch → LoadSettings)
    (still : ∀ j : Ch, s.chans[j].cfg.actsOnShedding (new j) = false) :
    s.setLoads new = s.mapChans fun j c => { c with cfg := new j } := by
  have quiet : (channels.any fun j => s.chans[j].cfg.actsOnShedding (new j)) = false :=
    List.any_eq_false.2 fun j _ => ne_true_of_eq_false (still j)
  have kept (j : Ch) : s.chans[j].cfg.dropsHold (new j) = false := by
    have same := still j
    simp only [LoadSettings.actsOnShedding, Bool.or_eq_false_iff, bne_eq_false_iff_eq, decide_eq_false_iff_not,
      not_not] at same
    obtain ⟨⟨fitted, cls⟩, -⟩ := same
    rw [LoadSettings.dropsHold, ← fitted, ← cls]
    exact (s.chans[j].cfg).dropsHold_self
  have stored : (s.mapChans fun j c => c.write (new j)) = s.mapChans fun j c => { c with cfg := new j } := by
    simp only [State.mapChans, Chan.write_idle _ _ (still _)]
  have latch : (s.mapChans fun j c => { c with cfg := new j }).latchCondition = s.latchCondition := by
    simp only [State.latchCondition, State.mapChans_get]
  have held (t : State) : (t.dropHolds fun j => s.chans[j].cfg.dropsHold (new j)) = t := by
    simp only [State.dropHolds, kept, Bool.not_false, List.filter_true]
  rw [State.setLoads, quiet, if_neg Bool.false_ne_true]
  simp only [State.writeLoads, stored, held, latch, Notices.level_same]

/-- A start demand is stored in its channel's record, and changes nothing else (R65, R66). -/
theorem State.setLoads_startDemand (s : State) (i : Ch) (on : Bool) :
    let w : LoadSettings := { s.chans[i].cfg with startDemand := on }
    s.setLoads (s.loadsAt i w) = { s with chans := Vector.ofFn fun j : Ch =>
      if j = i then { s.chans[j] with cfg := w } else s.chans[j] } := by
  intro w
  have still (j : Ch) : s.chans[j].cfg.actsOnShedding (s.loadsAt i w j) = false := by
    unfold State.loadsAt
    split
    · rename_i same; subst same; simp [LoadSettings.actsOnShedding, w]
    · simp [LoadSettings.actsOnShedding]
  have chan (j : Ch) : { s.chans[j] with cfg := s.loadsAt i w j } =
      if j = i then { s.chans[j] with cfg := w } else s.chans[j] := by
    unfold State.loadsAt
    split <;> rfl
  rw [State.setLoads_still s _ still]
  simp only [State.mapChans, chan]

/-- A write of a start demand alone is judged without INSTALL (R66). -/
theorem ansWriteLoads_startDemand (s : State) (i : Ch) (on : Bool) (stands : s.chans[i].cfg.clamp = s.chans[i].cfg) :
    let w : LoadSettings := { s.chans[i].cfg with startDemand := on }
    ansWriteLoads ((u8 (i.val + 1) ++ w.field).map BitVec.toNat) s = s.whenIdle
      (State.accept { s with chans := Vector.ofFn fun j : Ch =>
        if j = i then { s.chans[j] with cfg := w } else s.chans[j] } .ok (u8 (i.val + 1) ++ w.field)) := by
  intro w
  have clamped : w.clamp = w := congrArg (fun c : LoadSettings => { c with startDemand := on }) stands
  rw [ansWriteLoads_record s i w (LoadSettings.fits_of_clamp clamped), clamped, LoadSettings.touchesInstaller_startDemand,
    if_neg Bool.false_ne_true, State.setLoads_startDemand, clampedIf_eq, if_pos rfl]

/-- Settles O18: each request of the group is answered by the checks of access and of a save (`AsksInstaller`), which refuse it
(`State.request_gated`); a write to LOADS belongs to the group by the fields it touches (`ansWriteLoads_record`), and one of a
start demand alone does not (`ansWriteLoads_startDemand`). -/
theorem installerRequestsAreDeniedOrBusy : Obligations.InstallerRequestsAreDeniedOrBusy := by
  intro dt tag hi lo s hears u gate load
  refine ⟨fun shut => ?_, fun i on stands => ?_⟩
  · have gated {kind : Nat} {p : List Byte} {f : List Nat → State → Answer} (asks : AsksInstaller f p) (below : kind < 0x41) :
        s.request dt kind ⟨false, tag, p⟩ f = .next (u.answered kind tag gate []) :=
      State.request_gated s dt kind tag p f hears below shut (asks u)
    refine ⟨fun w => gated (ansWriteBattery_asks w) (by decide), fun k w => gated (ansWriteTiers_asks k w) (by decide),
      fun i w tier limit trip blank count delay minOn minOff openLevel differs => ?_,
      fun p => gated (ansWriteCurve_asks p) (by decide), fun w => gated (ansWriteSequence_asks w) (by decide),
      gated ansLoadDefaults_asks (by decide), gated (ansSetChargeReserve_asks hi lo) (by decide),
      gated (ansSetChargeFull_asks hi lo) (by decide)⟩
    refine State.request_gated s dt 0x31 tag _ ansWriteLoads hears (by decide) shut ?_
    rw [ansWriteLoads_record _ i w ⟨tier, limit, trip, blank, count, delay, minOn, minOff, openLevel⟩, State.taken_chans,
      LoadSettings.touchesInstaller_eq_true differs]
    exact ⟨_, rfl⟩
  · have judged := ansWriteLoads_startDemand u i on (by rw [State.taken_chans]; exact stands)
    simp only [u, State.taken_chans] at judged
    have answered {a : Answer} (x : State.whenIdle _ _ = a) :=
      State.request_answered s dt 0x31 tag _ ansWriteLoads hears (by decide) (judged.trans x)
    exact ⟨fun saving => answered (State.whenIdle_refused _ _ (by rw [State.taken_isSaving]; exact saving)),
      fun idle => answered (State.whenIdle_granted _ _ (by rw [State.taken_isSaving]; exact idle))⟩

end Sys2Proof.Machine
end

section
/-! PROOFS. The readings of the part, and the counts with their clearing. -/

namespace Sys2Proof.Machine

/-- A request without a payload is answered with what its reading gives of the part that has taken its frame (R153, R156). -/
theorem State.request_reads (s : State) (dt kind : Nat) (tag : Byte) (f : List Nat → State → Answer) (hears : s.Hears)
    (below : kind < 0x41) {payload : List Byte} (reads : f [] (s.taken dt) = (s.taken dt).accept .ok payload) :
    s.request dt kind ⟨false, tag, []⟩ f = .next ((s.taken dt).answered kind tag .ok payload) :=
  State.request_answered s dt kind tag [] f hears below reads

/-! ### IDENT, MEASURE and STATUS (R15, R158, R159) -/

/-- What MEASURE reads rests on the record of the scanner alone (R15). -/
theorem State.measurePayload_taken (s : State) (dt : Nat) : (s.taken dt).measurePayload = s.measurePayload := by
  simp only [State.measurePayload, State.taken_scanner]

/-- A frame restarts the link-quiet timer, which then shows no time (R153). -/
theorem State.taken_quietFor (s : State) (dt : Nat) : (s.taken dt).quietFor = 0 := Nat.sub_self (s.now + dt)

/-- Settles O19: the two readings are what `ansIdent` and `ansMeasure` make of a part whose frame has changed the link alone. -/
theorem identAndMeasureAnswer : Obligations.IdentAndMeasureAnswer := by
  intro dt tag s hears u
  refine ⟨State.request_reads s dt 0x01 tag ansIdent hears (by decide) rfl, ?_⟩
  have measured := State.request_reads s dt 0x06 tag ansMeasure hears (by decide) rfl
  rw [State.measurePayload_taken] at measured
  refine measured.trans ?_
  unfold State.measurePayload
  cases s.scanner.record <;> rfl

/-- Settles O20: the 29 characters are `State.statusPayload`, whose link-quiet time is 0 at the frame that asks for it
(`State.taken_quietFor`). -/
theorem statusAnswers : Obligations.StatusAnswers := by
  intro dt tag s hears
  refine (State.request_reads s dt 0x02 tag ansStatus hears (by decide) rfl).trans ?_
  rw [State.statusPayload, State.taken_quietFor]
  rfl

/-! ### The link counts and the tally counters (R155, R167, R168) -/

/-- Settles O22: the frame of a request is counted before its answer is formed (`State.taken`), and a clearing changes the counts
alone. -/
theorem countsAreReadAndCleared : Obligations.CountsAreReadAndCleared := by
  intro dt tag n s hears u k withheld
  refine ⟨?linkStatus, ?clearLinkCounts, ?countersRead, ?countersClear⟩
  case linkStatus => exact State.request_reads s dt 0x04 tag ansLinkStatus hears (by decide) rfl
  case clearLinkCounts => exact State.request_answered s dt 0x23 tag [] ansClearLinkCounts hears (by decide) rfl
  case countersRead => exact State.request_reads s dt 0x05 tag ansCountersRead hears (by decide) rfl
  case countersClear =>
    have cleared := State.request_answered s dt 0x22 tag [n] ansCountersClear hears (by decide)
      (a := (u.clearCounters n.toNat).accept .ok (u8 n.toNat)) rfl
    rw [u8, BitVec.ofNat_toNat, BitVec.setWidth_eq] at cleared
    exact cleared

end Sys2Proof.Machine
end

section
/-! PROOFS. The characters of the receiver, a break and a gap. -/

namespace Sys2Proof.Machine

/-! ### A character in reception ends (R147, R148, R149) -/

theorem noisy_eq (c : CharSamples) : noisy c = (c.data.toList ++ [c.mark, c.stop]).any disagrees := by
  simp [noisy, Bool.or_assoc]

/-- The noise of a character is counted before it is discarded or taken (R147; notes/assumptions/27.md). -/
theorem State.takeChar_eq (s : State) (dt fall : Nat) (c : CharSamples) : (s.elapse dt).takeChar fall c =
    if majority c.stop then (s.received dt c).character (majority c.mark) (charData c)
    else (s.received dt c).onLink fun l =>
      { (l.count fun k => { k with framing := bump k.framing }).abandon with spaceFall := some fall } := by
  have noted : ((s.elapse dt).onLink fun l =>
      { l.count (fun k => if (s.link.charNoise || noisy c) = true then { k with noise := bump k.noise } else k)
        with charFall := none, charNoise := false }) = s.received dt c := by
    simp only [State.onLink, Link.count, State.received, State.elapse_link, bump, Config.countMax]
    split <;> rfl
  simp only [State.takeChar, State.elapse_link, noted]

theorem exec_characterTaken (dt fall : Nat) (c : CharSamples) (s : State) (awake : s.inReset = none)
    (receiving : s.link.rx ≠ .send) (reception : s.link.charFall = some fall)
    (due : fall + 10 * s.power.bitTime + s.power.bitTime / 2 ≤ s.now + dt) :
    exec (.characterTaken dt c) s = .next ((s.elapse dt).takeChar fall c) := by
  rw [exec, execCharacterTaken, s.event_eq dt _ awake, State.elapse_link, reception]
  dsimp only
  rw [if_pos ⟨receiving, due⟩]

/-! ### The receiver states (R149, R150, R152) -/

/-- The link with a frame begun by the address `d`, whose gap timer ends at `gap` (R149, R152). -/
def Link.addressed (l : Link) (d : Byte) (gap : Nat) : Link := { l with rx := .collect, buffer := [d], gapEnd := some gap }

/-- The link with `d` added to the frame in collection (R149, R152). -/
def Link.joined (l : Link) (d : Byte) (gap : Nat) : Link := { l with buffer := l.buffer ++ [d], gapEnd := some gap }

/-- The moment at which 33 bit times have passed since the end of the stop bit whose middle is now (R152). -/
def State.gapAt (s : State) : Nat := s.now + s.power.bitTime / 2 + 33 * s.power.bitTime

/-- An address names this unit or is broadcast (R150). -/
def State.names (s : State) (d : Byte) : Bool := d.toNat = 0 ∨ d.toNat = s.power.unitAddress

theorem State.address_eq (s : State) (d : Byte) :
    s.address d.toNat = s.onLink fun l => if s.names d then l.addressed d s.gapAt else l := by
  simp only [State.address, State.names, decide_eq_true_eq, BitVec.ofNat_toNat, BitVec.setWidth_eq]
  split <;> rfl

theorem State.character_wait (s : State) (isAddress : Bool) (d : Byte) (wait : s.link.rx = .wait) :
    s.character isAddress d.toNat = s.onLink fun l => if isAddress && s.names d then l.addressed d s.gapAt else l := by
  simp only [State.character, wait, State.address_eq]
  cases isAddress <;> rfl

/-- An address in COLLECT abandons the frame in collection, and may begin the next (R152). -/
theorem State.character_short (s : State) (d : Byte) (collect : s.link.rx = .collect) :
    s.character true d.toNat = s.onLink fun l =>
      let l' := (l.count fun c => { c with short := bump c.short }).abandon
      if s.names d then l'.addressed d s.gapAt else l' := by
  simp only [State.character, collect, if_true, State.address_eq]
  rfl

theorem State.character_data (s : State) (d : Byte) (collect : s.link.rx = .collect) :
    s.character false d.toNat = s.data d.toNat := by
  simp only [State.character, collect, Bool.false_eq_true, if_false]

/-- LEN out of its range abandons the frame (R150, R152). -/
theorem State.data_length (s : State) (d : Byte) (second : s.link.buffer.length = 1)
    (outside : ¬(2 ≤ d.toNat ∧ d.toNat ≤ 58)) :
    s.data d.toNat = s.onLink fun l => (l.count fun c => { c with length := bump c.length }).abandon := by
  have len : (s.link.buffer ++ [d])[1]? = some d := by rw [List.getElem?_append_right second.le, second]; rfl
  simp only [State.data, BitVec.ofNat_toNat, BitVec.setWidth_eq, len, Option.map_some, Option.getD_some]
  rw [if_pos ⟨by simp [second], by omega⟩]

/-- A data character joins a frame that it leaves incomplete (R149, R150). -/
theorem State.data_joins (s : State) (d len : Byte) (lenIs : (s.link.buffer ++ [d])[1]? = some len)
    (inside : s.link.buffer.length = 1 → 2 ≤ len.toNat ∧ len.toNat ≤ 58)
    (incomplete : s.link.buffer.length + 1 < len.toNat + 4) :
    s.data d.toNat = s.onLink fun l => l.joined d s.gapAt := by
  have length : (s.link.buffer ++ [d]).length = s.link.buffer.length + 1 := by simp
  simp only [State.data, BitVec.ofNat_toNat, BitVec.setWidth_eq, lenIs, Option.map_some, Option.getD_some, length]
  rw [if_neg (by omega), if_neg (by omega)]
  rfl

/-- Settles O46: the character is taken with its noise counted (`exec_characterTaken`, `State.takeChar_eq`), and the receiver state
decides what it does (`State.character_wait`, `State.character_short`, `State.data_length`, `State.data_joins`). -/
theorem charactersAreTakenByTheReceiverState : Obligations.CharactersAreTakenByTheReceiverState := by
  intro dt fall d c s awake reception due bits noisyBits k base gap mine becomes
  have runs (receiving : s.link.rx ≠ .send) := exec_characterTaken dt fall c s awake receiving reception due
  simp only [State.takeChar_eq, charData_eq c d bits] at runs
  have link : (s.received dt c).link = base := by
    have noise : (s.link.charNoise || noisy c) = noisyBits := by rw [noisy_eq]; rfl
    simp only [State.received, base, k, noise]
  have names : (s.received dt c).names d = mine := rfl
  have onLink (f : Link → Link) : (s.received dt c).onLink f = { s with now := s.now + dt, link := f base } := by
    rw [State.onLink, link]; rfl
  have taken (stop : majority c.stop = true) (receiving : s.link.rx ≠ .send) {m : Bool} (mark : majority c.mark = m)
      {f : Link → Link} (does : (s.received dt c).character m d.toNat = (s.received dt c).onLink f) : becomes (f base) := by
    have run := runs receiving
    rw [if_pos stop, mark, does, onLink] at run
    exact run
  have ofWait (wait : s.link.rx = .wait) : s.link.rx ≠ .send := by rw [wait]; decide
  have ofCollect (collect : s.link.rx = .collect) : s.link.rx ≠ .send := by rw [collect]; decide
  refine ⟨?framing, ?begins, ?ignored, ?short, ?len, ?joins⟩
  case framing =>
    intro space receiving
    have run := runs receiving
    rw [if_neg (ne_true_of_eq_false space), onLink] at run
    exact run
  case begins =>
    intro stop wait mark own
    have does := (s.received dt c).character_wait true d wait
    rw [names, own] at does
    exact taken stop (ofWait wait) mark does
  case ignored =>
    intro stop wait other
    have ignores : (majority c.mark && mine) = false := Bool.and_eq_false_iff.2 other
    have does := (s.received dt c).character_wait (majority c.mark) d wait
    rw [names, ignores] at does
    exact taken stop (ofWait wait) rfl does
  case short =>
    intro stop collect mark
    have does := (s.received dt c).character_short d collect
    rw [names] at does
    have took := taken stop (ofCollect collect) mark does
    cases own : mine <;> rw [own] at took <;> exact took
  case len =>
    intro stop collect mark second
    have data {f : Link → Link} (does : (s.received dt c).data d.toNat = (s.received dt c).onLink f) :=
      taken stop (ofCollect collect) mark (((s.received dt c).character_data d collect).trans does)
    have lenIs : (s.link.buffer ++ [d])[1]? = some d := by rw [List.getElem?_append_right second.le, second]; rfl
    have short (inside : 2 ≤ d.toNat ∧ d.toNat ≤ 58) : s.link.buffer.length + 1 < d.toNat + 4 := by omega
    exact ⟨fun inside => data ((s.received dt c).data_joins d d lenIs (fun _ => inside) (short inside)),
      fun outside => data ((s.received dt c).data_length d second outside)⟩
  case joins =>
    intro len stop collect mark lenIs incomplete
    obtain ⟨past, -⟩ := List.getElem?_eq_some_iff.1 lenIs
    refine taken stop (ofCollect collect) mark (((s.received dt c).character_data d collect).trans
      ((s.received dt c).data_joins d len ?_ (fun second => ?_) incomplete))
    · rw [← lenIs]; exact List.getElem?_append_left past
    · exact absurd (second : s.link.buffer.length = 1) past.ne'

/-! ### BREAK and GAP (R148, R152) -/

theorem exec_breakHeld (dt fall : Nat) (s : State) (awake : s.inReset = none) (held : s.link.spaceFall = some fall)
    (due : fall + 22 * s.power.bitTime ≤ s.now + dt) : exec (.breakHeld dt) s = .next ((s.elapse dt).onLink fun l =>
      { (l.count fun c => { c with brk := bump c.brk }).abandon with spaceFall := none }) := by
  have expired : reached (s.elapse dt).now ((s.elapse dt).link.spaceFall.map (· + 22 * (s.elapse dt).power.bitTime)) = true := by
    rw [State.elapse_link, held]; exact decide_eq_true due
  rw [exec, execBreakHeld, s.event_eq dt _ awake, if_pos expired]

theorem exec_gap (dt e : Nat) (s : State) (awake : s.inReset = none) (collect : s.link.rx = .collect)
    (timer : s.link.gapEnd = some e) (due : e ≤ s.now + dt) : exec (.gap dt) s = .next ((s.elapse dt).onLink fun l =>
      (l.count fun c => { c with gap := bump c.gap }).abandon) := by
  have expired : (s.elapse dt).link.rx = .collect ∧ reached (s.elapse dt).now (s.elapse dt).link.gapEnd = true := by
    rw [State.elapse_link, timer]; exact ⟨collect, decide_eq_true due⟩
  rw [exec, execGap, s.event_eq dt _ awake, if_pos expired]

/-- Settles O49: at their moments both abandon the frame in collection and count (`exec_breakHeld`, `exec_gap`). -/
theorem breaksAndGapsEndCollection : Obligations.BreaksAndGapsEndCollection := fun dt e s awake =>
  ⟨exec_breakHeld dt e s awake, exec_gap dt e s awake⟩

end Sys2Proof.Machine
end

section
/-! PROOFS. Broadcasts. -/

namespace Sys2Proof.Machine

/-! ### A broadcast that no KIND takes, and one that its KIND takes (R153) -/

theorem State.request_dropped (s : State) (dt kind : Nat) (tag : Byte) (p : List Byte) (f : List Nat → State → Answer)
    (hears : s.Hears) (untaken : takesBroadcast kind = false) :
    s.request dt kind ⟨true, tag, p⟩ f = .next (s.taken dt) := by
  rw [State.request_eq s dt kind _ f hears, State.handle, untaken]
  rfl

/-- A broadcast that its KIND takes leaves the part as its answer does, without a reply (R153, R156). -/
theorem State.request_broadcast (s : State) (dt kind : Nat) (tag : Byte) (p : List Byte) (f : List Nat → State → Answer)
    (hears : s.Hears) (taken : takesBroadcast kind = true) (stays : kind ≠ 0x41) :
    s.request dt kind ⟨true, tag, p⟩ f = .next (f (p.map BitVec.toNat) (s.taken dt)).state := by
  rw [State.request_eq s dt kind _ f hears, State.handle, taken, decide_eq_false stays]
  rfl

/-- A broadcast acts on the part as an addressed request does, where the answer leaves the link alone (R153). -/
theorem State.request_broadcast_acts (s : State) (dt kind : Nat) (tag : Byte) (p : List Byte)
    (f : List Nat → State → Answer) (hears : s.Hears) (taken : takesBroadcast kind = true) (stays : kind ≠ 0x41)
    (link : (f (p.map BitVec.toNat) (s.taken dt)).state.link = (s.taken dt).link) :
    ∃ t t' : State, s.request dt kind ⟨true, tag, p⟩ f = .next t ∧ s.request dt kind ⟨false, tag, p⟩ f = .next t' ∧
      t = { t' with link := (s.taken dt).link } := by
  refine ⟨_, _, State.request_broadcast s dt kind tag p f hears taken stays,
    State.request_addressed s dt kind tag p f hears stays, ?_⟩
  rw [← link]
  rfl

/-! ### SWITCH, DOZE and RESTART (R76, R77, R138, R143) -/

theorem State.switchOn_link (s : State) (set : Nat) : (s.switchOn set).link = s.link := by
  rw [(s.switchOn_moves set).link, State.demandOn, State.mapChans_link]

theorem State.switchOff_link (s : State) (set : Nat) : (s.switchOff set).link = s.link := by
  rw [(s.switchOff_moves set).link, State.demandOff, State.dropHolds_link, State.mapChans_link]

theorem ansSwitch_link (p : List Nat) (s : State) : (ansSwitch p s).state.link = s.link := by
  unfold ansSwitch; split
  · split
    · rfl
    · rename_i on _
      cases on
      · exact s.switchOff_link _
      · exact s.switchOn_link _
  · rfl

theorem ansDoze_link (p : List Nat) (s : State) : (ansDoze p s).state.link = s.link := by
  unfold ansDoze; split
  · simp only [State.whenIdle]
    split_ifs
    · rfl
    · rfl
    · exact s.enterDoze_link
  · rfl

/-- RESTART takes no payload (R143, R156). -/
theorem ansRestart_payload (p : List Nat) (s : State) (carried : p ≠ []) : ansRestart p s = s.refuse .badLength := by
  cases p with
  | nil => exact absurd rfl carried
  | cons => rfl

/-- A broadcast RESTART begins its reset when it is accepted (R143). -/
theorem exec_restart_broadcast (dt : Nat) (tag : Byte) (p : List Byte) (s : State) (hears : s.Hears) :
    exec (.restart dt ⟨true, tag, p⟩) s = .next (if p = [] then (s.taken dt).resetBy .request else s.taken dt) := by
  refine (State.request_eq s dt 0x41 _ ansRestart hears).trans (congrArg _ ?_)
  by_cases bare : p = []
  · rw [if_pos bare, bare]; rfl
  · rw [if_neg bare, State.handle, ansRestart_payload _ _ (by simpa using bare)]; rfl

/-- Settles O48: a broadcast of another KIND is dropped (`State.request_dropped`), one of SWITCH or DOZE acts as an addressed one
does since their answers leave the link alone (`State.request_broadcast_acts`), and a RESTART begins its reset at once
(`exec_restart_broadcast`, `State.resetBy_halts`). -/
theorem broadcastsAreNeverAnswered : Obligations.BroadcastsAreNeverAnswered := by
  intro dt tag p s hears b u
  refine ⟨fun c listed => ?_, fun c listed => ?_, fun carried => ?_, fun bare => ?_⟩
  · fin_cases listed <;> exact State.request_dropped s dt _ tag p _ hears rfl
  · fin_cases listed
    · exact State.request_broadcast_acts s dt 0x10 tag p ansSwitch hears rfl (by decide) (ansSwitch_link _ _)
    · exact State.request_broadcast_acts s dt 0x40 tag p ansDoze hears rfl (by decide) (ansDoze_link _ _)
  · rw [exec_restart_broadcast dt tag p s hears, if_neg carried]
  · refine ⟨u.resetBy .request, by rw [exec_restart_broadcast dt tag p s hears, if_pos bare], ?_⟩
    exact u.resetBy_halts .request hears.awake

end Sys2Proof.Machine
end

section
/-! PROOFS. The notice sets bit by bit, ALERTN and the level conditions, with ACK, MASK and the write to NOTICE. -/

namespace Sys2Proof.Machine

/-! ### Notice sets (R150, R161) -/

/-- A set lies within another exactly when each of its notices does. -/
theorem noticeSet_within (a b : BitVec 9) : a &&& ~~~b = 0 ↔ ∀ k : Fin 9, a[k] = true → b[k] = true := by
  constructor
  · intro h k ha
    have bit : (a &&& ~~~b)[k.val] = (0#9)[k.val] := by rw [h]; rfl
    have ha' : a[k.val] = true := ha
    simpa [ha'] using bit
  · intro h
    ext k hk
    have within := h ⟨k, hk⟩
    simpa using within

/-- A set that a number forms names a code where the number has its bit (R150). -/
theorem noticeSet_get (m : Nat) (k : Fin 9) : (BitVec.ofNat 9 m)[k] = m.testBit k.val := by
  rw [Fin.getElem_fin, BitVec.getElem_eq_testBit_toNat, BitVec.toNat_ofNat, Nat.testBit_mod_two_pow]
  simp

/-- The code of a notice (R161). -/
def NoticeCode.index : NoticeCode → Fin 9
  | .restart => 0
  | .tier => 1
  | .cutoff => 2
  | .trip => 3
  | .latch => 4
  | .holdEnd => 5
  | .sense => 6
  | .input => 7
  | .store => 8

theorem NoticeCode.bit_eq (c : NoticeCode) : c.bit = BitVec.twoPow 9 c.index := by cases c <;> decide

/-- The bit of a notice names its code alone (R150). -/
theorem NoticeCode.bit_get (c : NoticeCode) (k : Fin 9) : c.bit[k] = decide (k = c.index) := by
  revert k; cases c <;> decide

/-- A set meets the bit of a notice exactly when it names the notice. -/
theorem NoticeCode.bit_meets (c : NoticeCode) (set : BitVec 9) : (set &&& c.bit ≠ 0) ↔ set[c.index] = true := by
  have some' : BitVec.twoPow 9 c.index ≠ 0 := by rw [← c.bit_eq]; cases c <;> decide
  have get : set.getLsbD c.index = set[c.index] := BitVec.getLsbD_eq_getElem c.index.isLt
  rw [c.bit_eq, BitVec.and_twoPow, get]
  cases set[c.index]
  · simp
  · exact iff_of_true some' rfl

/-! ### What the Notice Unit makes of its sets (R161 to R164) -/

section
variable (n : Notices) (c : NoticeCode) (k : Fin 9)

theorem Notices.edge_get (happens : Bool) :
    (n.edge c happens).latch[k] = (n.latch[k] || (happens && decide (k = c.index))) := by
  have bit : c.bit[k.val] = decide (k = c.index) := c.bit_get k
  rw [Notices.edge_latch]; cases happens <;> simp [bit]

theorem Notices.level_onset : n.level c false true = { n with latch := n.latch ||| c.bit }.form := rfl

theorem Notices.level_end : n.level c true false = if n.ackMark[c.index] = true
    then { n with latch := n.latch &&& ~~~c.bit, ackMark := n.ackMark &&& ~~~c.bit }.form else n := by
  simp only [Notices.level, ← c.bit_meets n.ackMark, decide_eq_true_eq, Bool.not_true, Bool.false_and, Bool.not_false,
    Bool.true_and, Bool.false_eq_true, if_false]

/-- The onset of a condition sets its latch; its end clears a latch whose mark is set, and the mark (R162). -/
theorem Notices.level_here (before after : Bool) :
    (n.level c before after).latch[c.index] =
      (!before && after || n.latch[c.index] && !(before && !after && n.ackMark[c.index])) ∧
    (n.level c before after).ackMark[c.index] = (n.ackMark[c.index] && !(before && !after)) := by
  have bit : c.bit[c.index.val] = true := by simpa using c.bit_get c.index
  cases before <;> cases after
  case false.false | true.true => rw [Notices.level_same]; simp
  case false.true => rw [Notices.level_onset]; simp [bit]
  case true.false =>
    rw [Notices.level_end]
    split <;> simp_all

theorem Notices.acknowledge_get (names present : BitVec 9) :
    (n.acknowledge names present).latch[k] = (n.latch[k] && (!names[k] || present[k])) ∧
    (n.acknowledge names present).ackMark[k] = (n.ackMark[k] || (names[k] && present[k] && n.latch[k])) := by
  simp [Notices.acknowledge]

end

/-! ### ALERTN (R163) -/

/-- ALERTN is asserted exactly while a latch is set whose mask is clear (R163). -/
def Notices.Formed (n : Notices) : Prop := n.alertn = decide (∃ k : Fin 9, n.latch[k] = true ∧ n.mask[k] = false)

theorem State.alertLaw_iff (s : State) : s.AlertLaw ↔ s.notices.Formed := Iff.rfl

theorem Notices.form_formed (n : Notices) : n.form.Formed := by
  have some' : n.latch &&& ~~~n.mask ≠ 0 ↔ ∃ k : Fin 9, n.latch[k] = true ∧ n.mask[k] = false := by
    rw [Ne, noticeSet_within]; simp
  exact decide_eq_decide.2 some'

theorem Notices.Formed.edge {n : Notices} (h : n.Formed) (c : NoticeCode) (happens : Bool) : (n.edge c happens).Formed := by
  unfold Notices.edge; split
  · exact Notices.form_formed _
  · exact h

theorem Notices.Formed.level {n : Notices} (h : n.Formed) (c : NoticeCode) (before after : Bool) :
    (n.level c before after).Formed := by
  unfold Notices.level; split_ifs
  · exact Notices.form_formed _
  · exact Notices.form_formed _
  · exact h

/-! ### The level conditions (R161, R162) -/

/-- The level conditions that hold, code by code (R62, R84, R161). -/
def State.holding (s : State) (k : Fin 9) : Bool :=
  if k = 2 then s.cutoffCondition else if k = 4 then s.latchCondition else if k = 6 then s.scanner.senseFault else false

theorem State.conditions_get (s : State) (k : Fin 9) : s.conditions[k] = s.holding k := by
  unfold State.conditions State.holding
  generalize s.cutoffCondition = cutoff
  generalize s.latchCondition = latch
  generalize s.scanner.senseFault = sense
  revert k cutoff latch sense
  decide

/-! ### ACK, MASK and the write to NOTICE (R163, R164, R171) -/

theorem noticeSet_named {hi lo : Nat} (h : be16 hi lo < 512) : noticeSet hi lo = some (BitVec.ofNat 9 (be16 hi lo)) := if_pos h

theorem noticeSet_beyond {hi lo : Nat} (h : 512 ≤ be16 hi lo) : noticeSet hi lo = none := if_neg (by omega)

/-- A notice set goes out in the two characters that it came in (R150). -/
theorem noticeField_set (hi lo : Byte) (h : be16 hi.toNat lo.toNat < 512) :
    noticeField (BitVec.ofNat 9 (be16 hi.toNat lo.toNat)) = [hi, lo] := by
  rw [noticeField, BitVec.toNat_ofNat, Nat.mod_eq_of_lt h, u16]
  unfold be16 at h ⊢
  congr 1
  · bv_omega
  · congr 1; bv_omega

theorem ansAck_set {hi lo : Nat} (s : State) (h : be16 hi lo < 512) :
    let x := s.notices.acknowledge (BitVec.ofNat 9 (be16 hi lo)) s.conditions
    ansAck [hi, lo] s =
      State.accept { s with notices := x } .ok (noticeField x.latch ++ noticeField x.mask ++ noticeField x.ackMark) := by
  simp only [ansAck, noticeSet_named h]

/-- Settles O31: the named set is acknowledged under the conditions of the part (`ansAck_set`), which its taking of the frame leaves,
and each latch and mark follows bit by bit (`Notices.acknowledge_get`, `State.conditions_get`). -/
theorem ackTreatsNamedLatches : Obligations.AckTreatsNamedLatches := by
  intro dt tag hi lo s hears below present named
  let names := BitVec.ofNat 9 (be16 hi.toNat lo.toNat)
  have name (k : Fin 9) : names[k] = named k := noticeSet_get _ k
  refine ⟨s.notices.acknowledge names s.conditions, ?_, rfl, fun k => ?_, fun k => ?_, Notices.form_formed _⟩
  · have answer := ansAck_set (s.taken dt) below
    rw [State.taken_notices, State.taken_conditions] at answer
    exact State.request_answered s dt 0x20 tag [hi, lo] ansAck hears (by decide) answer
  · obtain ⟨latch, -⟩ := s.notices.acknowledge_get k names s.conditions
    rw [latch, name, State.conditions_get]; rfl
  · obtain ⟨-, mark⟩ := s.notices.acknowledge_get k names s.conditions
    rw [mark, name, State.conditions_get]; rfl

/-- Settles O32: the two characters name a set or a code above 8 (`noticeSet_named`, `noticeSet_beyond`), and the masks set form
ALERTN again (`Notices.form_formed`). -/
theorem maskReplacesTheMasks : Obligations.MaskReplacesTheMasks := by
  intro dt tag hi lo s hears u m masked
  have set : u.setMasks (BitVec.ofNat 9 m) = { u with notices := masked } := by
    have formed := Notices.form_formed { s.notices with mask := BitVec.ofNat 9 m }
    simp only [Notices.Formed, Notices.form_latch, Notices.form_mask, noticeSet_get] at formed
    simp only [State.setMasks, Notices.setMask, u, State.taken_notices, masked, ← formed]; rfl
  have mask (a : Answer) := State.request_answered s dt 0x21 tag [hi, lo] ansMask hears (by decide) (a := a)
  have write (a : Answer) := State.request_answered s dt 0x31 tag [hi, lo] ansWriteNotice hears (by decide) (a := a)
  refine ⟨fun below => mask (State.accept { u with notices := masked } .ok ([hi, lo] ++ u16 s.notices.latch.toNat)) ?_,
    fun below idle => write (State.accept { u with notices := masked } .ok [hi, lo]) ?_,
    fun below saving => write (u.refuse .busy) ?_,
    fun beyond => ⟨mask (u.refuse .badValue) ?_, write (u.refuse .badValue) ?_⟩⟩
  · simp only [List.map, ansMask, noticeSet_named below]
    rw [set, noticeField_set hi lo below, State.taken_notices]; rfl
  · simp only [List.map, ansWriteNotice, noticeSet_named below]
    rw [State.whenIdle_granted _ _ (by rw [State.taken_isSaving, idle]), set, noticeField_set hi lo below]
  · simp only [List.map, ansWriteNotice, noticeSet_named below]
    rw [State.whenIdle_refused _ _ (by rw [State.taken_isSaving, saving])]
  · simp only [List.map, ansMask, noticeSet_beyond beyond]; rfl
  · simp only [List.map, ansWriteNotice, noticeSet_beyond beyond]; rfl

end Sys2Proof.Machine
end

section
/-! PROOFS. What a part of a command keeps of the notices and of the counts, said once, and the changes that keep it. -/

namespace Sys2Proof.Machine

/-! ### One channel (R80, R81, R87, R88) -/

/-- A change of a channel that keeps its protection sound and its usage within the ceiling. -/
structure Chan.Guards (c d : Chan) : Prop where
  protection : c.ProtectionLaw → d.ProtectionLaw
  usage : c.usage ≤ Config.totalMax → d.usage ≤ Config.totalMax

/-- Such a change that neither enters nor leaves LATCHED. -/
structure Chan.Steady (c d : Chan) : Prop extends c.Guards d where
  latched : d.prot = .latched ↔ c.prot = .latched

theorem Chan.Guards.trans {c d e : Chan} (h : c.Guards d) (k : d.Guards e) : c.Guards e :=
  ⟨k.protection ∘ h.protection, k.usage ∘ h.usage⟩

theorem Chan.Moves.steady {c d : Chan} (h : c.Moves d) : c.Steady d where
  protection law := ⟨by rw [h.retryEnd, h.prot]; exact law.timer, h.retries.trans_le law.retries,
    h.overCount.trans law.overCount, h.openRun.trans law.openRun, by rw [h.cfg]; exact law.settings⟩
  usage le := h.usage.trans_le le
  latched := by rw [h.prot]

/-- What the counts and the protection do not rest on may change. -/
theorem Chan.Steady.of_rest {c d : Chan} (rest : d = { c with
    out := d.out, demand := d.demand, blankEnd := d.blankEnd, goodRun := d.goodRun, runLock := d.runLock,
    restLock := d.restLock, openFlag := d.openFlag, lastOff := d.lastOff, mark := d.mark, force := d.force,
    onBefore := d.onBefore }) : c.Steady d := by
  rw [rest]
  exact ⟨⟨fun law => ⟨law.timer, law.retries, law.overCount, law.openRun, law.settings⟩, id⟩, Iff.rfl⟩

theorem Chan.Steady.refl (c : Chan) : c.Steady c := .of_rest rfl

/-- A change to NORMAL stops the retry timer (R84, R85). -/
theorem Chan.toNormal_guards (c : Chan) : c.Guards c.toNormal :=
  ⟨fun law => ⟨by simp [Chan.toNormal], law.retries, law.overCount, law.openRun, law.settings⟩, id⟩

theorem Chan.Guards.unretried {c d : Chan} (h : c.Guards d) : c.Guards { d with retries := 0 } :=
  ⟨fun law => have law := h.protection law; ⟨law.timer, Nat.zero_le _, law.overCount, law.openRun, law.settings⟩, h.usage⟩

theorem Chan.toNormal_steady {c : Chan} (waits : c.prot = .tripWait) : c.Steady c.toNormal :=
  ⟨c.toNormal_guards, by simp [Chan.toNormal, waits]⟩

theorem Chan.demandOff_steady (c : Chan) : c.Steady c.demandOff := by
  have without (d : Chan) (h : c.Steady d) : c.Steady { d with demand := false, mark := none } :=
    ⟨h.toGuards.trans (Chan.Steady.of_rest rfl).toGuards, h.latched⟩
  refine without _ ?_
  split
  · exact Chan.toNormal_steady ‹_›
  · exact .refl c

/-- New settings within the ranges of R65 keep the protection sound, whether they act on the channel or not (R67, R69, R70). -/
theorem Chan.write_guards {c : Chan} {cfg : LoadSettings} (fits : cfg = c.cfg ∨ cfg.tripCount ≤ 16 ∧ cfg.retryCount ≤ 7) :
    c.Guards (c.write cfg) := by
  refine ⟨fun law => ?_, fun le => ?_⟩
  · have settings : cfg.tripCount ≤ 16 ∧ cfg.retryCount ≤ 7 := fits.elim (fun same => same ▸ law.settings) id
    have timer : Option.isSome (none : Option Nat) = true ↔ Protection.normal = .tripWait := by simp
    simp only [Chan.write]
    split_ifs
    · exact ⟨timer, Nat.zero_le _, Nat.zero_le _, law.openRun, settings⟩
    · exact ⟨timer, Nat.zero_le _, law.overCount, Nat.zero_le _, settings⟩
    · exact ⟨law.timer, law.retries, law.overCount, law.openRun, settings⟩
    · exact ⟨timer, Nat.zero_le _, Nat.zero_le _, law.openRun, settings⟩
    · exact ⟨timer, Nat.zero_le _, law.overCount, Nat.zero_le _, settings⟩
    · exact ⟨law.timer, law.retries, law.overCount, law.openRun, settings⟩
  · rw [Chan.write_usage]; exact le

theorem Chan.use_guards (n k : Nat) (c : Chan) : c.Guards (c.use n k) := by
  unfold Chan.use; split
  · exact ⟨fun law => ⟨law.timer, law.retries, law.overCount, law.openRun, law.settings⟩, fun _ => Nat.min_le_left _ _⟩
  · exact (Chan.Steady.refl c).toGuards

/-- A trip of a channel in NORMAL starts the retry timer with TRIP_WAIT alone, and uses a retry while one is left (R81). -/
theorem Chan.trip_guards (now n : Nat) {c : Chan} (normal : c.prot = .normal) : c.Guards (c.trip now n) := by
  simp only [Chan.trip]
  split
  · rename_i left
    refine ⟨fun law => ⟨by simp, ?_, Nat.zero_le _, Nat.zero_le _, law.settings⟩, id⟩
    exact Nat.le_trans left law.settings.2
  · refine ⟨fun law => ⟨?_, law.retries, Nat.zero_le _, Nat.zero_le _, law.settings⟩, id⟩
    have stopped := law.timer
    rw [normal] at stopped
    simpa [Chan.turnOff] using stopped

/-- The over-count that brings no trip stays below the trip count (R80). -/
theorem Chan.protect_guards (now n : Nat) (c : Chan) : c.Guards (c.protect now n).chan := by
  simp only [Chan.protect]
  split
  · rename_i trips
    have normal : c.prot = .normal := by
      have judged := (Bool.and_eq_true_iff.1 trips.1).1
      simp only [Chan.judged, Bool.and_eq_true, decide_eq_true_eq] at judged
      exact judged.1.1.1
    exact Chan.trip_guards now n normal
  · rename_i stays
    refine ⟨fun law => ⟨law.timer, law.retries, ?_, law.openRun, law.settings⟩, id⟩
    have below := law.overCount
    have settings := law.settings.1
    simp only [Bool.and_eq_true, decide_eq_true_eq, not_and, not_le] at stays
    dsimp only
    simp only [Chan.overCountAfter] at stays ⊢
    split_ifs at stays ⊢ with unlimited judged above
    · exact Nat.zero_le _
    · have := stays ⟨judged, above⟩; omega
    · exact Nat.zero_le _
    · exact below

theorem Chan.checkOpen_guards (now n : Nat) (c : Chan) : c.Guards (c.checkOpen now n).1 := by
  have counted (run : Nat) (flag : Bool) (le : c.openRun ≤ 10 → run ≤ 10) : c.Guards { c with openRun := run, openFlag := flag } :=
    ⟨fun law => ⟨law.timer, law.retries, law.overCount, le law.openRun, law.settings⟩, id⟩
  unfold Chan.checkOpen
  split_ifs
  · exact counted _ _ id
  · exact counted _ _ fun _ => Nat.zero_le _
  · exact counted _ _ fun _ => Nat.min_le_left _ _
  · exact counted _ _ fun _ => Nat.zero_le _
  · exact counted _ _ id

/-- A scan completion keeps a channel's protection sound and its usage within the ceiling (R80, R81, R87, R88). -/
theorem Chan.treat_guards (now n k : Nat) (c : Chan) : c.Guards (c.treat now n k).chan :=
  ((c.use_guards n k).trans (Chan.protect_guards now n _)).trans (Chan.checkOpen_guards now n _)

/-! ### The settings that a channel may take (R65, R176) -/

theorem LoadSettings.clamp_counts (w : LoadSettings) : w.clamp.tripCount ≤ 16 ∧ w.clamp.retryCount ≤ 7 :=
  ⟨(clampNat_range 1 16 w.tripCount (by decide)).2, (clampNat_range 0 7 w.retryCount (by decide)).2⟩

theorem factoryLoads_counts (i : Ch) : factoryProfile.loads[i].tripCount ≤ 16 ∧ factoryProfile.loads[i].retryCount ≤ 7 := by
  have factory : factoryProfile.loads[i] = factoryLoad i := by simp [factoryProfile]
  rw [factory]; exact (by decide : 3 ≤ 16 ∧ 2 ≤ 7)

theorem Profile.Loads.counts {p : Profile} (h : p.Loads) (i : Ch) : p.loads[i].tripCount ≤ 16 ∧ p.loads[i].retryCount ≤ 7 := by
  rcases h with rfl | ⟨q, rfl⟩
  · exact factoryLoads_counts i
  · obtain ⟨-, loads, -⟩ := q.taken_fields
    rw [loads]; exact LoadSettings.clamp_counts _

/-- A write of clamped records gives a channel its own settings or a clamped record (R66). -/
theorem State.loadsWith_counts (s : State) (first : Nat) (ws : List LoadSettings) (i : Ch) :
    let new := s.loadsWith first (ws.map LoadSettings.clamp) i
    new = s.chans[i].cfg ∨ new.tripCount ≤ 16 ∧ new.retryCount ≤ 7 := by
  intro new
  simp only [new, State.loadsWith, List.getElem?_map]
  split
  · cases ws[channelNo i - first]? with
    | none => exact .inl rfl
    | some w => exact .inr w.clamp_counts
  · exact .inl rfl

/-- A channel after a reset is sound with the settings that the reset loads (R91). -/
theorem Chan.afterReset_guards (c : Chan) (cold : Bool) {cfg : LoadSettings} (counts : cfg.tripCount ≤ 16 ∧ cfg.retryCount ≤ 7) :
    c.Guards (c.afterReset cold cfg) where
  protection _ := ⟨by simp [Chan.afterReset, Chan.fresh], Nat.zero_le _, Nat.zero_le _, Nat.zero_le _, counts⟩
  usage le := by
    simp only [Chan.afterReset]; split
    · exact Nat.zero_le _
    · exact le

/-! ### The tally counters and the link counts (R155, R165) -/

/-- Every tally within its ceiling stays within it and does not fall (R165). -/
def State.Rises (s t : State) : Prop := ∀ k : Fin 8, s.tally[k].value ≤ Config.totalMax →
  s.tally[k].value ≤ t.tally[k].value ∧ t.tally[k].value ≤ Config.totalMax

theorem State.Rises.of_tally {s t : State} (h : t.tally = s.tally) : s.Rises t := fun k le => by
  rw [h]; exact ⟨Nat.le_refl _, le⟩

theorem State.Rises.refl (s : State) : s.Rises s := .of_tally rfl

theorem State.Rises.trans {s t u : State} (h : s.Rises t) (k : t.Rises u) : s.Rises u := fun n le =>
  have first := h n le
  have then' := k n first.2
  ⟨first.1.trans then'.1, then'.2⟩

theorem State.Moves.rises {s t : State} (h : s.Moves t) : s.Rises t := fun k => (h.tally k).value

/-- The nine link counts (R155). -/
def LinkCounts.all (c : LinkCounts) : List Nat :=
  [c.good, c.framing, c.brk, c.noise, c.short, c.gap, c.length, c.crc, c.dropped]

/-- No link count exceeds its ceiling (R155). -/
def LinkCounts.Bounded (c : LinkCounts) : Prop := ∀ n ∈ c.all, n ≤ Config.countMax

theorem bump_le (n : Nat) : bump n ≤ Config.countMax := Nat.min_le_left _ _

theorem LinkCounts.zero_bounded : LinkCounts.zero.Bounded := by unfold LinkCounts.Bounded; decide

/-- Counts of which one has gone up by 1 stay within the ceiling (R155). -/
theorem LinkCounts.Bounded.bumped {c d : LinkCounts} (h : c.Bounded) (j n : Nat) (e : d.all = c.all.set j (bump n)) :
    d.Bounded := by
  intro m mem
  rw [e] at mem
  rcases List.mem_or_eq_of_mem_set mem with kept | rfl
  · exact h m kept
  · exact bump_le n

/-! ### The level notices (R162) -/

/-- The cutoff measures VOLTAGE with no suppress flag (R44), an acknowledge mark stands only on a set latch whose condition holds,
and outside a reset the latch of every condition that holds is set (R162). -/
structure State.Levelled (s : State) : Prop where
  cutoff : s.tiers.recs[4].cfg.measure = .voltage ∧ s.tiers.recs[4].cfg.suppress = false
  marked : ∀ k : Fin 9, s.notices.ackMark[k] = true → s.notices.latch[k] = true ∧ s.holding k = true
  latched : s.inReset = none → ∀ k : Fin 9, s.holding k = true → s.notices.latch[k] = true

theorem State.levelLaw_iff (s : State) : s.LevelLaw ↔
    (∀ k : Fin 9, s.notices.ackMark[k] = true → s.notices.latch[k] = true ∧ s.holding k = true) ∧
    (s.inReset = none → ∀ k : Fin 9, s.holding k = true → s.notices.latch[k] = true) := by
  have both (k : Fin 9) : (s.notices.latch &&& s.conditions)[k] = (s.notices.latch[k] && s.holding k) := by
    rw [← s.conditions_get]; exact BitVec.getElem_and k.isLt
  have marked := noticeSet_within s.notices.ackMark (s.notices.latch &&& s.conditions)
  have latched := noticeSet_within s.conditions s.notices.latch
  simp only [both, Bool.and_eq_true] at marked
  simp only [s.conditions_get] at latched
  exact ⟨fun law => ⟨marked.1 law.marked, fun awake => latched.1 (law.latched awake)⟩,
    fun law => ⟨marked.2 law.1, fun awake => latched.2 (law.2 awake)⟩⟩

theorem State.Levelled.law {s : State} (h : s.Levelled) : s.LevelLaw := s.levelLaw_iff.2 ⟨h.marked, h.latched⟩

theorem State.LevelLaw.levelled {s : State} (law : s.LevelLaw) (tiers : s.TierLaw) : s.Levelled :=
  ⟨tiers.cutoff, (s.levelLaw_iff.1 law).1, (s.levelLaw_iff.1 law).2⟩

theorem State.holding_congr {s t : State} (cutoff : t.cutoffCondition = s.cutoffCondition)
    (latch : t.latchCondition = s.latchCondition) (sense : t.scanner.senseFault = s.scanner.senseFault) :
    t.holding = s.holding := by
  funext k; simp only [State.holding, cutoff, latch, sense]

theorem State.latchCondition_congr {s t : State} (h : ∀ i : Ch, t.chans[i].prot = .latched ↔ s.chans[i].prot = .latched) :
    t.latchCondition = s.latchCondition := by
  simp only [State.latchCondition, h]

section
variable {s t : State}

/-- What leaves the notices and the conditions as they stand keeps the level notices. -/
theorem State.Levelled.still (h : s.Levelled)
    (cutoff : t.tiers.recs[4].cfg.measure = .voltage ∧ t.tiers.recs[4].cfg.suppress = false) (inReset : t.inReset = s.inReset)
    (notices : t.notices = s.notices) (holding : t.holding = s.holding) : t.Levelled :=
  ⟨cutoff, by rw [notices, holding]; exact h.marked, by rw [inReset, notices, holding]; exact h.latched⟩

/-- An event sets latches and no mark (R161). -/
theorem State.Levelled.edge (h : s.Levelled) (c : NoticeCode) (happens : Bool) :
    State.Levelled { s with notices := s.notices.edge c happens } := by
  have kept (k : Fin 9) (set : s.notices.latch[k] = true) : (s.notices.edge c happens).latch[k] = true := by
    rw [Notices.edge_get, set, Bool.true_or]
  refine ⟨h.cutoff, fun k marked => ?_, fun awake k holds => kept k (h.latched awake k holds)⟩
  rw [Notices.edge_ackMark] at marked
  obtain ⟨latch, holds⟩ := h.marked k marked
  exact ⟨kept k latch, holds⟩

/-- A level notice follows its condition, while the other conditions stand (R162). -/
theorem State.Levelled.level (h : s.Levelled) (c : NoticeCode)
    (cutoff : t.tiers.recs[4].cfg.measure = .voltage ∧ t.tiers.recs[4].cfg.suppress = false) (inReset : t.inReset = s.inReset)
    (notices : t.notices = s.notices.level c (s.holding c.index) (t.holding c.index))
    (others : ∀ k, k ≠ c.index → t.holding k = s.holding k) : t.Levelled := by
  have here := s.notices.level_here c (s.holding c.index) (t.holding c.index)
  have there (k : Fin 9) (other : k ≠ c.index) := s.notices.level_other c (s.holding c.index) (t.holding c.index) k
    (by rw [c.bit_get]; exact decide_eq_false other)
  rw [← notices] at here there
  refine ⟨cutoff, fun k marked => ?_, fun awake k holds => ?_⟩
  all_goals by_cases same : k = c.index
  · subst same
    rw [here.2, Bool.and_eq_true] at marked
    obtain ⟨latch, holds⟩ := h.marked c.index marked.1
    have still : t.holding c.index = true := by simpa [holds] using marked.2
    rw [here.1, latch, holds, still]; exact ⟨rfl, rfl⟩
  · rw [(there k same).2] at marked
    rw [(there k same).1, others k same]; exact h.marked k marked
  · subst same
    have before := h.latched (inReset ▸ awake) c.index
    rw [here.1, holds]
    cases was : s.holding c.index with
    | false => rfl
    | true => rw [before was]; rfl
  · rw [(there k same).1]
    exact h.latched (inReset ▸ awake) k (by rw [← others k same]; exact holds)

/-- An ACK under the conditions that hold marks only on latches that stay (R162, R164). -/
theorem State.Levelled.acknowledge (h : s.Levelled) (names : BitVec 9) :
    State.Levelled { s with notices := s.notices.acknowledge names s.conditions } := by
  have bits (k : Fin 9) := s.notices.acknowledge_get k names s.conditions
  refine ⟨h.cutoff, fun k marked => ?_, fun awake k holds => ?_⟩
  · rw [(bits k).2, Bool.or_eq_true, s.conditions_get] at marked
    rw [(bits k).1, s.conditions_get]
    change _ ∧ s.holding k = true
    obtain ⟨latch, holds⟩ : s.notices.latch[k] = true ∧ s.holding k = true := marked.elim (h.marked k) fun new => by
      simp only [Bool.and_eq_true] at new; exact ⟨new.2, new.1.2⟩
    rw [latch, holds]; simp
  · have holds' : s.holding k = true := holds
    rw [(bits k).1, s.conditions_get, holds', h.latched awake k holds]; simp

end

end Sys2Proof.Machine
end

section
/-! PROOFS. The operations of the part keep the notices and the counts. -/

namespace Sys2Proof.Machine

/-- What a part of a command keeps of the notices and of the counts: ALERTN stands formed (R163), the level notices follow their
conditions (R162), each channel's protection is sound (R80, R81, R87), every count stays within its ceiling (R14, R88, R155, R165,
R173), and no tally falls unless `cleared` says that the command may clear it (R165). -/
structure State.Accounts (cleared : Prop) (s t : State) : Prop where
  alert : s.notices.Formed → t.notices.Formed
  level : s.Levelled → t.Levelled
  chans : ∀ i : Ch, s.chans[i].Guards t.chans[i]
  tallies : (∀ k : Fin 8, s.tally[k].value ≤ Config.totalMax) → ∀ k : Fin 8, t.tally[k].value ≤ Config.totalMax
  rises : ¬cleared → s.Rises t
  link : s.link.counts.Bounded → t.link.counts.Bounded
  erases : s.store.eraseCount ≤ Config.eraseMax → t.store.eraseCount ≤ Config.eraseMax
  scans : s.scanner.number ≤ 65535 → t.scanner.number ≤ 65535

/-- What leaves the notices, their conditions and the counts beside the channels' as they stand. -/
structure State.Still (s t : State) : Prop where
  inReset : t.inReset = s.inReset
  notices : t.notices = s.notices
  tiers : t.tiers = s.tiers
  sense : t.scanner.senseFault = s.scanner.senseFault
  number : t.scanner.number = s.scanner.number
  counts : t.link.counts = s.link.counts
  erases : t.store.eraseCount = s.store.eraseCount
  rises : s.Rises t
  chans : ∀ i : Ch, s.chans[i].Steady t.chans[i]

theorem State.Moves.still {s t : State} (h : s.Moves t) : s.Still t :=
  ⟨h.inReset, h.notices, h.tiers, by rw [h.scanner], by rw [h.scanner], by rw [h.link], by rw [h.store], h.rises,
    fun i => (h.chans i).steady⟩

/-- A change of nothing but the channels, and of what no count and no notice rests on. -/
theorem State.Still.of_chans {s t : State} (rest : t = { s with
      now := t.now, est := t.est, chans := t.chans, seq := t.seq, holds := t.holds, power := t.power, pending := t.pending })
    (chans : ∀ i : Ch, s.chans[i].Steady t.chans[i]) : s.Still t :=
  ⟨by rw [rest], by rw [rest], by rw [rest], by rw [rest], by rw [rest], by rw [rest], by rw [rest], .of_tally (by rw [rest]),
    chans⟩

theorem State.Still.mapChans (s : State) (f : Ch → Chan → Chan) (h : ∀ i : Ch, s.chans[i].Steady (f i s.chans[i])) :
    s.Still (s.mapChans f) :=
  ⟨by simp, by simp, by simp, by simp, by simp, by simp, by simp, .of_tally (by simp), fun i => by
    rw [State.mapChans_get]; exact h i⟩

theorem State.Still.setChan (s : State) (i : Ch) {c : Chan} (h : s.chans[i].Steady c) : s.Still (s.setChan i c) :=
  .of_chans rfl fun j => by
    rw [State.setChan_get]; split
    · rename_i e; rw [e]; exact h
    · exact .refl _

/-! ### The cutoff record (R44, R53, R55) -/

/-- Without its suppress flag a record is neither suppressed nor released by SHORE or IGN (R51, R52). -/
theorem TierRecord.suppression_calls (r : TierRecord) (source : Bool) (h : r.cfg.suppress = false) :
    (r.suppression source).calls = r.calls := by
  unfold TierRecord.suppression
  simp only [h, Bool.false_and, Bool.false_eq_true, if_false]
  split_ifs with _ suppressed
  · rfl
  · simp [TierRecord.calls, TierRecord.go, suppressed]
  · rfl

/-- A change of the Tier Monitor that leaves the cutoff's measure, its flag and its condition (R44, R62). -/
def TierMonitor.KeepsCutoff (m m' : TierMonitor) : Prop :=
  m.recs[4].cfg.measure = .voltage ∧ m.recs[4].cfg.suppress = false →
    (m'.recs[4].cfg.measure = .voltage ∧ m'.recs[4].cfg.suppress = false) ∧ m'.recs[4].calls = m.recs[4].calls

theorem TierRecord.write_cutoff {r : TierRecord} {cfg : TierSettings} (before : r.cfg.measure = .voltage)
    (after : cfg.measure = .voltage ∧ cfg.suppress = false) (source : Bool) : (r.write cfg source).calls = r.calls := by
  rw [TierRecord.write, if_pos (after.1.trans before.symm), TierRecord.suppression_calls _ _ after.2]; rfl

theorem TierMonitor.write_keepsCutoff (m : TierMonitor) (k : Fin 5) {cfg : TierSettings} (fits : cfg.Fits k) (source : Bool) :
    m.KeepsCutoff (m.write k cfg source) := by
  intro fixed
  rw [show (m.write k cfg source).recs[4] = _ from m.write_get k cfg source 4]
  split
  · rename_i cutoff
    have after := fits.2 cutoff.symm
    exact ⟨by rw [TierRecord.write_cfg]; exact after, TierRecord.write_cutoff fixed.1 after source⟩
  · exact ⟨fixed, rfl⟩

theorem TierMonitor.writeAll_keepsCutoff (m : TierMonitor) {cfgs : Vector TierSettings 5} (fits : cfgs[(4 : Fin 5)].Fits 4)
    (source : Bool) : m.KeepsCutoff (m.writeAll cfgs source) := by
  intro fixed
  have after := fits.2 rfl
  rw [show (m.writeAll cfgs source).recs[4] = _ from m.writeAll_get cfgs source 4]
  exact ⟨by rw [TierRecord.write_cfg]; exact after, TierRecord.write_cutoff fixed.1 after source⟩

theorem TierMonitor.suppression_keepsCutoff (m : TierMonitor) (source : Bool) : m.KeepsCutoff (m.suppression source) := by
  intro fixed
  rw [show (m.suppression source).recs[4] = _ from m.suppression_get source 4]
  exact ⟨by rw [TierRecord.suppression_cfg]; exact fixed, TierRecord.suppression_calls _ _ fixed.2⟩

namespace State.Accounts
variable {cleared : Prop}

/-! ### Changes that bear on no notice -/

theorem still {s t : State} (h : s.Still t) : s.Accounts cleared t where
  alert formed := by rw [h.notices]; exact formed
  level law := law.still (by rw [h.tiers]; exact law.cutoff) h.inReset h.notices
    (State.holding_congr (by simp only [State.cutoffCondition, h.tiers])
      (State.latchCondition_congr fun i => (h.chans i).latched) h.sense)
  chans i := (h.chans i).toGuards
  tallies le k := (h.rises k (le k)).2
  rises _ := h.rises
  link := by rw [h.counts]; exact id
  erases := by rw [h.erases]; exact id
  scans := by rw [h.number]; exact id

theorem refl (s : State) : s.Accounts cleared s := still (State.Moves.refl s).still

theorem trans {s t u : State} (h : s.Accounts cleared t) (k : t.Accounts cleared u) : s.Accounts cleared u where
  alert := k.alert ∘ h.alert
  level := k.level ∘ h.level
  chans i := (h.chans i).trans (k.chans i)
  tallies := k.tallies ∘ h.tallies
  rises held := (h.rises held).trans (k.rises held)
  link := k.link ∘ h.link
  erases := k.erases ∘ h.erases
  scans := k.scans ∘ h.scans

theorem ite {s t u : State} {p : Prop} [Decidable p] (h : p → s.Accounts cleared t) (k : ¬p → s.Accounts cleared u) :
    s.Accounts cleared (if p then t else u) := by
  split
  · exact h ‹_›
  · exact k ‹_›

theorem moves {s t u : State} (h : s.Accounts cleared t) (k : t.Moves u) : s.Accounts cleared u := h.trans (still k.still)

theorem report {s t : State} (h : s.Accounts cleared t) (k : EventKind) (l : List Nat) : s.Accounts cleared (t.report k l) :=
  h.moves (t.report_moves k l)

theorem resolve {s t : State} (h : s.Accounts cleared t) : s.Accounts cleared t.resolve := h.moves t.resolve_moves

theorem resolveIf {s t : State} (h : s.Accounts cleared t) (p : Prop) [Decidable p] :
    s.Accounts cleared (if p then t.resolve else t) := ite (fun _ => h.resolve) fun _ => h

section
variable (s : State)

/-- A change of the link keeps its counts within their ceilings. -/
theorem linked {l : Link} (h : s.link.counts.Bounded → l.counts.Bounded) : s.Accounts cleared { s with link := l } :=
  ⟨id, fun law => ⟨law.cutoff, law.marked, law.latched⟩, fun _ => (Chan.Steady.refl _).toGuards, id, fun _ => .refl s, h, id, id⟩

theorem tiered {m : TierMonitor} (h : s.tiers.KeepsCutoff m) : s.Accounts cleared { s with tiers := m } :=
  ⟨id, fun law => law.still (h law.cutoff).1 rfl rfl (State.holding_congr (h law.cutoff).2 rfl rfl),
    fun _ => (Chan.Steady.refl _).toGuards, id, fun _ => .refl s, id, id, id⟩

/-! ### Changes of the notices -/

theorem noticed {n : Notices} (alert : s.notices.Formed → n.Formed) (level : s.Levelled → State.Levelled { s with notices := n }) :
    s.Accounts cleared { s with notices := n } :=
  ⟨alert, level, fun _ => (Chan.Steady.refl _).toGuards, id, fun _ => .refl s, id, id, id⟩

theorem edge (c : NoticeCode) (happens : Bool) : s.Accounts cleared { s with notices := s.notices.edge c happens } :=
  noticed s (·.edge c happens) (·.edge c happens)

theorem acknowledged (names : BitVec 9) :
    s.Accounts cleared { s with notices := s.notices.acknowledge names s.conditions } :=
  noticed s (fun _ => Notices.form_formed _) (·.acknowledge names)

theorem masked (m : BitVec 9) : s.Accounts cleared (s.setMasks m) :=
  noticed s (fun _ => Notices.form_formed _) fun law => ⟨law.cutoff, law.marked, law.latched⟩

/-- CUTOFF follows an evaluation of the records (R62). -/
theorem cutoffFollows {m : TierMonitor} (kept : m.recs[4].cfg = s.tiers.recs[4].cfg) : s.Accounts cleared { s with
    tiers := m, notices := s.notices.level .cutoff s.cutoffCondition m.recs[4].calls } where
  alert := (·.level _ _ _)
  level law := law.level .cutoff (by rw [kept]; exact law.cutoff) rfl rfl
    fun k other => by simp only [State.holding, if_neg (show k ≠ 2 from other)]; rfl
  chans _ := (Chan.Steady.refl _).toGuards
  tallies := id
  rises _ := .refl s
  link := id
  erases := id
  scans := id

/-- LATCH follows a change of the channels (R84). -/
theorem latchFollows {cs : Vector Chan 24} {hs : List HoldEntry} {latched : Bool} (chans : ∀ i : Ch, s.chans[i].Guards cs[i])
    (formed : latched = channels.any fun i : Ch => decide (cs[i].prot = .latched)) : s.Accounts cleared { s with
      chans := cs, holds := hs, notices := s.notices.level .latch s.latchCondition latched } where
  alert := (·.level _ _ _)
  level law := law.level .latch law.cutoff rfl (by rw [formed]; rfl)
    fun k other => by simp only [State.holding, if_neg (show k ≠ 4 from other)]; rfl
  chans := chans
  tallies := id
  rises _ := .refl s
  link := id
  erases := id
  scans := id

/-- SENSE follows the sense fault of a completion, whose number stays within its range (R12, R14). -/
theorem senseFollows {sc : Scanner} (number : s.scanner.number ≤ 65535 → sc.number ≤ 65535) : s.Accounts cleared { s with
    scanner := sc, notices := s.notices.level .sense s.scanner.senseFault sc.senseFault } where
  alert := (·.level _ _ _)
  level law := law.level .sense law.cutoff rfl rfl
    fun k other => by simp only [State.holding, if_neg (show k ≠ 6 from other)]; rfl
  chans _ := (Chan.Steady.refl _).toGuards
  tallies := id
  rises _ := .refl s
  link := id
  erases := id
  scans := number

/-! ### Resets (R134, R144, R146) -/

theorem resetBy (src : ResetSource) : s.Accounts cleared (s.resetBy src) := by
  cases reset : s.inReset with
  | some r =>
    rw [s.resetBy_again src r reset]
    exact ⟨id, fun law => ⟨law.cutoff, law.marked, nofun⟩, fun _ => (Chan.Steady.refl _).toGuards, id, fun _ => .refl s, id, id,
      id⟩
  | none =>
    have begun : s.resetBy src = { s.startReset with inReset := s.startReset.inReset.map fun r => r.act src } := by
      simp only [State.resetBy, reset]; rfl
    rw [begun]
    refine ⟨fun _ => ?_, fun law => ⟨law.cutoff, fun k marked => ?_, nofun⟩, fun i => ?_, id, fun _ => .of_tally rfl,
      fun _ => LinkCounts.zero_bounded, id, id⟩
    · simp [Notices.Formed, State.startReset]
    · simp [State.startReset] at marked
    · simp only [State.startReset, Fin.getElem_fin, Vector.getElem_ofFn]
      exact (Chan.Steady.of_rest rfl).toGuards

end

end State.Accounts

end Sys2Proof.Machine
end

section
/-! PROOFS. Each operation of the blocks keeps the notices and the counts. -/

namespace Sys2Proof.Machine

section
variable {cleared : Prop} (s : State)

/-! ### Scans and the power state (R2 to R6, R137, R140) -/

theorem State.beginScan_still : s.Still s.beginScan :=
  ⟨by simp, by simp, by simp, rfl, rfl, by simp, by simp, .of_tally (by simp), fun i => by
    rw [State.beginScan_get]; exact .of_rest rfl⟩

theorem State.beginScan_accounts : s.Accounts cleared s.beginScan := .still s.beginScan_still

theorem State.powered_accounts (p : Power) : s.Accounts cleared { s with power := p } :=
  .still (.of_chans rfl fun _ => .refl _)

theorem State.exitDoze_accounts : s.Accounts cleared s.exitDoze := by
  have left : s.Accounts cleared { s with
      power := { s.power with st := .run, lastExit := s.now }, scanner := { s.scanner with timer := none } } :=
    .still ⟨rfl, rfl, rfl, rfl, rfl, rfl, rfl, .refl s, fun _ => .refl _⟩
  exact .ite (fun _ => .ite (fun _ => left.trans (State.beginScan_accounts _)) fun _ => left) fun _ => .refl s

theorem State.enterDoze_accounts : s.Accounts cleared s.enterDoze := (s.powered_accounts _).report _ _

theorem State.dozeTest_accounts : s.Accounts cleared s.dozeTest := .ite (fun _ => s.enterDoze_accounts) fun _ => .refl s

/-! ### The completion of a scan (R12 to R14, R17, R47, R62, R80 to R88) -/

/-- The scan number returns to 1 after 65,535 (R14). -/
theorem Scanner.complete_number (sc : Scanner) (f : Scan) (smp : Samples) (h : sc.number ≤ 65535) :
    (sc.complete f smp).1.number ≤ 65535 := by
  change (if sc.number = 65535 then 1 else sc.number + 1) ≤ 65535
  split <;> omega

theorem State.scanned_accounts (f : Scan) (smp : Samples) : s.Accounts cleared (s.scanned f smp) :=
  (State.Accounts.senseFollows s (s.scanner.complete_number f smp)).report _ _

theorem State.onFault_accounts (changed : Bool) : s.Accounts cleared (s.onFault changed) := State.Accounts.resolveIf (.refl s) _

theorem State.evaluateTiers_accounts (r : ScanRecord) : s.Accounts cleared (s.evaluateTiers r).1 := by
  have evaluated (happens : Bool) (m : TierMonitor) (kept : m.recs[4].cfg = s.tiers.recs[4].cfg) :
      s.Accounts cleared { s with
        tiers := m
        notices := (s.notices.edge .tier happens).level .cutoff s.cutoffCondition m.recs[4].calls } :=
    (State.Accounts.edge s .tier happens).trans (State.Accounts.cutoffFollows _ kept)
  refine ((evaluated _ _ ?_).report _ _).report _ _
  exact (congrArg TierRecord.cfg (s.tiers.evaluate_get _ _ _ 4)).trans (TierRecord.evaluate_cfg _ _ _)

theorem State.estimated_accounts (r : ScanRecord) : s.Accounts cleared (s.estimated r).1 := by
  have taken (e : Estimator) (q : Sequencer) : s.Accounts cleared { s with est := e, seq := q } :=
    .still (.of_chans rfl fun _ => .refl _)
  have reported (e : Estimator) (q : Sequencer) (rest full : Bool) :=
    ((taken e q).report .restCorrection (if rest then [0] else [])).report .fullResync (if full then [0] else [])
  simp only [State.estimated]
  split
  · exact ((reported _ _ _ _).trans (State.evaluateTiers_accounts _ r)).resolveIf _
  · exact reported _ _ _ _

theorem State.controlled_accounts (r : ScanRecord) : s.Accounts cleared (s.controlled r).1 := by
  have treated (trips : Bool) (cs : Vector Chan 24) (chans : ∀ i : Ch, s.chans[i].Guards cs[i]) : s.Accounts cleared { s with
      chans := cs
      notices := (s.notices.edge .trip trips).level .latch s.latchCondition (State.latchCondition { s with chans := cs }) } :=
    (State.Accounts.edge s .trip trips).trans (State.Accounts.latchFollows _ chans rfl)
  have guarded (i : Ch) : s.chans[i].Guards (s.chans[i].treat s.now r.currents[i] r.power.factor).chan :=
    Chan.treat_guards _ _ _ _
  simp only [State.controlled]
  exact State.Accounts.resolveIf ((((treated _ _ fun i => by simpa using guarded i).report _ _).report _ _).report _ _) _

theorem State.completeScan_accounts (f : Scan) (smp : Samples) (ord : CompletionOrder) :
    s.Accounts cleared (s.completeScan f smp ord) := by
  obtain ⟨faultFirst, controllerFirst, testFirst⟩ := ord
  have scanned : s.Accounts cleared (s.scanned f smp) := s.scanned_accounts f smp
  simp only [State.completeScan, State.consume]
  generalize s.scanned f smp = s0 at scanned ⊢
  have tested : s.Accounts cleared (if testFirst then s0.dozeTest else s0) :=
    .ite (fun _ => scanned.trans s0.dozeTest_accounts) fun _ => scanned
  generalize (if testFirst then s0.dozeTest else s0) = s1 at tested ⊢
  have ends {u : State} (told : Bool) (taken : s.Accounts cleared u) :
      let v := if told then u.exitDoze else u
      let w := if testFirst then v else v.dozeTest
      s.Accounts cleared (if w.scanner.timer.isNone && w.scanner.inFlight.isNone then w.beginScan else w) := by
    intro v w
    have left : s.Accounts cleared v := .ite (fun _ => taken.trans u.exitDoze_accounts) fun _ => taken
    have last : s.Accounts cleared w := .ite (fun _ => left) fun _ => left.trans v.dozeTest_accounts
    exact .ite (fun _ => last.trans w.beginScan_accounts) fun _ => last
  have faulted {u : State} (taken : s.Accounts cleared u) (changed : Bool) : s.Accounts cleared (u.onFault changed) :=
    taken.trans (u.onFault_accounts changed)
  have estimated {u : State} (taken : s.Accounts cleared u) (r : ScanRecord) : s.Accounts cleared (u.estimated r).1 :=
    taken.trans (u.estimated_accounts r)
  have controlled {u : State} (taken : s.Accounts cleared u) (r : ScanRecord) : s.Accounts cleared (u.controlled r).1 :=
    taken.trans (u.controlled_accounts r)
  cases faultFirst <;> cases controllerFirst <;> simp only [if_true, if_false, Bool.false_eq_true]
  · exact ends _ (faulted (controlled (estimated tested _) _) _)
  · exact ends _ (faulted (estimated (controlled tested _) _) _)
  · exact ends _ (controlled (estimated (faulted tested _) _) _)
  · exact ends _ (estimated (controlled (faulted tested _) _) _)

/-! ### The discrete inputs and the forces (R51, R132, R136) -/

theorem State.sourceChanged_accounts : s.Accounts cleared s.sourceChanged :=
  (State.Accounts.tiered s (s.tiers.suppression_keepsCutoff _)).moves s.sourceChanged_moves

theorem State.sourceInput_accounts (first : Bool) : s.Accounts cleared (s.sourceInput first) := by
  have noticed : s.Accounts cleared { s with notices := s.notices.edge .input true } := .edge s _ _
  exact .ite (fun _ => (noticed.trans (State.exitDoze_accounts _)).trans (State.sourceChanged_accounts _))
    fun _ => (noticed.trans (State.sourceChanged_accounts _)).trans (State.exitDoze_accounts _)

theorem State.lapse_accounts : s.Accounts cleared s.lapse :=
  .moves (.still (State.Still.mapChans s _ fun _ => .of_rest rfl)) s.lapse_moves

theorem State.takeInput_accounts (i : Input) (first : Bool) : s.Accounts cleared
    (match i with
      | .shore => (s.takeLevel i).sourceInput first
      | .ign => (s.takeLevel i).sourceInput first
      | .install => (s.takeLevel i).installInput) := by
  have level : s.Accounts cleared (s.takeLevel i) := s.powered_accounts _
  cases i with
  | shore | ign => exact level.trans (State.sourceInput_accounts _ first)
  | install => exact level.trans (.ite (fun _ => .refl _) fun _ => State.lapse_accounts _)

/-! ### New load settings (R66, R69, R84) -/

theorem State.writeLoads_accounts {new : Ch → LoadSettings}
    (fits : ∀ i : Ch, new i = s.chans[i].cfg ∨ (new i).tripCount ≤ 16 ∧ (new i).retryCount ≤ 7) :
    s.Accounts cleared (s.writeLoads new) := by
  simp only [State.writeLoads, State.dropHolds, State.mapChans]
  exact State.Accounts.latchFollows s (fun i => by simpa using Chan.write_guards (fits i)) rfl

end

end Sys2Proof.Machine
end

section
/-! PROOFS. The answers to requests and the end of a reset keep the notices and the counts. -/

namespace Sys2Proof.Machine

section
variable {cleared : Prop} (s : State)

theorem State.tallied_accounts {v : Vector Counter 8}
    (le : (∀ k : Fin 8, s.tally[k].value ≤ Config.totalMax) → ∀ k : Fin 8, v[k].value ≤ Config.totalMax)
    (rises : ¬cleared → s.Rises { s with tally := v }) : s.Accounts cleared { s with tally := v } :=
  ⟨id, fun law => ⟨law.cutoff, law.marked, law.latched⟩, fun _ => (Chan.Steady.refl _).toGuards, le, rises, id, id, id⟩

theorem State.stored_accounts {st : Store} (h : s.store.eraseCount ≤ Config.eraseMax → st.eraseCount ≤ Config.eraseMax) :
    s.Accounts cleared { s with store := st } :=
  ⟨id, fun law => ⟨law.cutoff, law.marked, law.latched⟩, fun _ => (Chan.Steady.refl _).toGuards, id, fun _ => .refl s, id, h, id⟩

/-- New selectors keep the values (R166). -/
theorem State.selected_accounts (sel : Fin 8 → Selector) :
    s.Accounts cleared { s with tally := Vector.ofFn fun k => { s.tally[k] with sel := sel k } } := by
  have value (k : Fin 8) : (Vector.ofFn fun k : Fin 8 => { s.tally[k] with sel := sel k })[k].value = s.tally[k].value := by simp
  refine s.tallied_accounts (fun le k => ?_) fun _ k le => ?_
  · rw [value]; exact le k
  · rw [value]; exact ⟨Nat.le_refl _, le⟩

theorem State.dropHolds_accounts (p : Ch → Bool) : s.Accounts cleared (s.dropHolds p) :=
  .still (.of_chans rfl fun _ => .refl _)

/-! ### The answers to requests (R156, R157) -/

theorem State.demandOff_accounts (set : Ch → Bool) : s.Accounts cleared (s.demandOff set) := by
  refine .trans (.still (State.Still.mapChans s _ fun i => ?_)) (State.dropHolds_accounts _ _)
  split
  · exact Chan.demandOff_steady _
  · exact .refl _

/-- CLEAR_TRIP ends TRIP_WAIT and LATCHED, and LATCH follows (R84, R85). -/
theorem State.clearTrips_accounts (set : Nat) : s.Accounts cleared (s.clearTrips set) := by
  refine .moves ?_ (s.clearTrips_moves set)
  simp only [State.cleared, State.mapChans]
  refine .latchFollows s (fun i => ?_) rfl
  simp only [Fin.getElem_fin, Vector.getElem_ofFn]
  split
  · exact (Chan.toNormal_guards _).unretried
  · exact (Chan.Steady.refl _).toGuards

/-- The factory sections are taken as if they had been written (R175). -/
theorem State.takeDefaults_accounts : s.Accounts cleared (s.takeProfile factoryProfile) := by
  have written : s.Accounts cleared (s.writeLoads fun i => factoryProfile.loads[i]) :=
    s.writeLoads_accounts fun i => .inr (factoryLoads_counts i)
  simp only [State.takeProfile]
  generalize (s.writeLoads fun i => factoryProfile.loads[i]) = t at written ⊢
  have tiers := written.trans (.tiered t (t.tiers.writeAll_keepsCutoff (factoryTiers_fit 4) s.sourcePresent))
  have masks := tiers.trans (.masked _ factoryProfile.masks)
  have selectors := masks.trans (State.selected_accounts _ fun k => factoryProfile.counters[k])
  exact selectors.trans (.still (.of_chans rfl fun _ => .refl _))

variable {s}

/-- Every answer keeps them, and COUNTERS_CLEAR alone makes a tally fall (R165, R168). -/
theorem State.Serves.accounts {t : State} (h : s.Serves t) (rises : ¬cleared → s.Rises t) : s.Accounts cleared t := by
  have beside {u : State} (rest : u = { s with
      now := u.now, est := u.est, chans := s.chans, seq := u.seq, holds := u.holds, power := u.power, pending := u.pending }) :
      s.Accounts cleared u := .still (.of_chans (by rw [rest]) fun i => by rw [rest]; exact .refl _)
  cases h with
  | nothing => exact .refl s
  | demandOn set => exact .moves (.still (State.Still.mapChans s _ fun _ => .of_rest rfl)) (s.switchOn_moves set)
  | demandOff set => exact (s.demandOff_accounts _).moves (s.switchOff_moves set)
  | reheld => exact beside rfl
  | held i minutes => exact (beside rfl).moves (s.placeNew_moves i minutes)
  | released i => exact (s.dropHolds_accounts _).moves (s.release_moves i)
  | forced i f => exact .moves (.still (State.Still.setChan s i (.of_rest rfl))) (s.setForce_moves i f)
  | tripsCleared set => exact s.clearTrips_accounts set
  | usageCleared set =>
    refine .still (State.Still.mapChans s _ fun i => ?_)
    split
    · exact ⟨⟨fun law => ⟨law.timer, law.retries, law.overCount, law.openRun, law.settings⟩, fun _ => Nat.zero_le _⟩, Iff.rfl⟩
    · exact .refl _
  | acknowledged names => exact .acknowledged s names
  | masked m => exact .masked s m
  | countersCleared set =>
    refine s.tallied_accounts (fun le k => ?_) rises
    simp only [Fin.getElem_fin, Vector.getElem_ofFn]
    split
    · exact Nat.zero_le _
    · exact le k
  | linkCountsCleared => exact .linked s fun _ => LinkCounts.zero_bounded
  | batteryWritten | curveWritten | charged | dozeWritten => exact beside rfl
  | tierWritten k cfg fits => exact (State.Accounts.tiered s (s.tiers.write_keepsCutoff k fits _)).moves (s.writeTier_moves k cfg)
  | loadsWritten first ws => exact (s.writeLoads_accounts (s.loadsWith_counts first ws)).moves (s.setLoads_moves _)
  | sequenceWritten w => exact (beside rfl).moves (s.setSequence_moves w.clamp)
  | selectorsWritten => exact s.selected_accounts _
  | moved => exact (beside rfl).moves (s.setOrder_moves _)
  | saving _ erases => exact s.stored_accounts fun _ => erases
  | defaults => exact s.takeDefaults_accounts.resolve
  | dozes => exact s.enterDoze_accounts

/-! ### The end of a reset (R146) -/

/-- The latches of a part that takes up its work are events, under the masks that it loads (R146, R161, R163). -/
theorem State.takesUp_notices (s : State) (r : ResetInfo) (p : Profile) (source : ProfileSource) (adr : BitVec 4) (br : BitVec 2) :
    (s.takesUp r p source adr br).notices =
      (({ latch := 0, ackMark := 0, mask := p.masks, alertn := false } : Notices).edge .restart true).edge .store
        (decide (source = .factory)) := by
  simp [State.takesUp, State.started, State.restored]

/-- No level condition holds as the part takes up its work (R16, R64, R91). -/
theorem State.takesUp_holding (s : State) (r : ResetInfo) (p : Profile) (source : ProfileSource) (adr : BitVec 4) (br : BitVec 2)
    (k : Fin 9) : (s.takesUp r p source adr br).holding k = false := by
  have cutoff : (s.takesUp r p source adr br).cutoffCondition = false := by
    rw [State.cutoffCondition, State.takesUp_tiers]
    exact (congrArg TierRecord.calls (TierMonitor.fresh_get _ _ 4)).trans (TierRecord.fresh_calls _ _)
  have latch : (s.takesUp r p source adr br).latchCondition = false := by
    simp only [State.latchCondition, List.any_eq_false, decide_eq_true_eq]
    intro i _
    obtain ⟨-, -, -, -, normal, -⟩ := s.takesUp_loads r p source adr br i
    rw [normal]; exact nofun
  have sense : (s.takesUp r p source adr br).scanner.senseFault = false := by
    rw [State.takesUp_scanner]; rfl
  simp only [State.holding, cutoff, latch, sense, ite_self]

theorem State.takesUp_accounts (s : State) (r : ResetInfo) {p : Profile} (source : ProfileSource) (adr : BitVec 4) (br : BitVec 2)
    (loads : p.Loads) (cold : r.cold = true → cleared) : s.Accounts cleared (s.takesUp r p source adr br) := by
  have restored (k : Fin 8) (le : (if r.cold then 0 else s.tally[k].value) ≤ Config.totalMax) :
      (if r.cold then 0 else s.tally[k].value) ≤ (s.takesUp r p source adr br).tally[k].value ∧
      (s.takesUp r p source adr br).tally[k].value ≤ Config.totalMax := by
    rw [State.takesUp_tally]
    exact ((Counter.Moves.count _ _ ⟨p.counters[k], if r.cold then 0 else s.tally[k].value⟩).trans (.count _ _ _)).value le
  refine ⟨fun _ => ?_, fun _ => ⟨?_, fun k marked => ?_, fun _ k holds => ?_⟩, fun i => ?_, fun le k => (restored k ?_).2,
    fun kept k le => ?_, fun _ => ?_, ?_, fun _ => ?_⟩
  · have released : Notices.Formed { latch := 0, ackMark := 0, mask := p.masks, alertn := false } := by simp [Notices.Formed]
    rw [State.takesUp_notices]
    exact (released.edge _ _).edge _ _
  · have fixed := (loads.tiers 4).2 rfl
    rw [State.takesUp_tiers]
    rw [show (TierMonitor.fresh _ _).recs[4] = _ from TierMonitor.fresh_get p.tiers _ 4, TierRecord.fresh_eq]
    exact fixed
  · rw [State.takesUp_ackMark] at marked; simp at marked
  · rw [State.takesUp_holding] at holds; cases holds
  · rw [State.takesUp_chan]
    exact ((Chan.afterReset_guards _ _ (loads.counts i)).trans (Chan.Moves.derive _ _).steady.toGuards).trans
      (Chan.Steady.of_rest rfl).toGuards
  · split
    · exact Nat.zero_le _
    · exact le k
  · have warm : ¬r.cold = true := fun h => kept (cold h)
    simpa only [if_neg warm] using restored k (by rw [if_neg warm]; exact le)
  · rw [State.takesUp_link]; exact LinkCounts.zero_bounded
  · rw [State.takesUp_store]; exact id
  · rw [State.takesUp_scanner]; exact Nat.zero_le _

end

end Sys2Proof.Machine
end

section
/-! PROOFS. No answer but that of COUNTERS_CLEAR makes a tally fall. -/

namespace Sys2Proof.Machine

theorem State.Rises.moved {s t u : State} (k : t.Moves u) (h : t.tally = s.tally) : s.Rises u :=
  (State.Rises.of_tally h).trans k.rises

section
variable (p : List Nat) (s : State)

theorem State.whenIdle_rises {a : Answer} (h : s.Rises a.state) : s.Rises (s.whenIdle a).state := by
  unfold State.whenIdle; split
  · exact .refl s
  · exact h

theorem State.whenInstaller_rises {a : Answer} (h : s.Rises a.state) : s.Rises (s.whenInstaller a).state := by
  unfold State.whenInstaller; split
  · exact s.whenIdle_rises h
  · exact .refl s

/-! Readings, and the requests that no tally rests on. -/

theorem ansIdent_rises : s.Rises (ansIdent p s).state := by unfold ansIdent; split <;> exact .of_tally rfl
theorem ansStatus_rises : s.Rises (ansStatus p s).state := by unfold ansStatus; split <;> exact .of_tally rfl
theorem ansLoadStatus_rises : s.Rises (ansLoadStatus p s).state := by
  unfold ansLoadStatus; (repeat' split) <;> exact .of_tally rfl
theorem ansLinkStatus_rises : s.Rises (ansLinkStatus p s).state := by unfold ansLinkStatus; split <;> exact .of_tally rfl
theorem ansCountersRead_rises : s.Rises (ansCountersRead p s).state := by
  unfold ansCountersRead; split <;> exact .of_tally rfl
theorem ansMeasure_rises : s.Rises (ansMeasure p s).state := by unfold ansMeasure; split <;> exact .of_tally rfl
theorem ansProfileRead_rises : s.Rises (ansProfileRead p s).state := by
  unfold ansProfileRead; (repeat' split) <;> exact .of_tally rfl
theorem ansRestart_rises : s.Rises (ansRestart p s).state := by unfold ansRestart; split <;> exact .of_tally rfl
theorem ansAck_rises : s.Rises (ansAck p s).state := by unfold ansAck; (repeat' split) <;> exact .of_tally rfl
theorem ansMask_rises : s.Rises (ansMask p s).state := by unfold ansMask; (repeat' split) <;> exact .of_tally rfl
theorem ansClearLinkCounts_rises : s.Rises (ansClearLinkCounts p s).state := by
  unfold ansClearLinkCounts; split <;> exact .of_tally rfl
theorem ansWriteBattery_rises : s.Rises (ansWriteBattery p s).state := by
  unfold ansWriteBattery; split
  · exact .refl s
  · exact s.whenInstaller_rises (.of_tally rfl)
theorem ansWriteCurve_rises : s.Rises (ansWriteCurve p s).state := by
  unfold ansWriteCurve; split
  · exact .refl s
  · split
    · exact .refl s
    · split
      · exact .refl s
      · exact s.whenInstaller_rises (.of_tally rfl)
theorem ansWriteNotice_rises : s.Rises (ansWriteNotice p s).state := by
  unfold ansWriteNotice; split
  · split
    · exact .refl s
    · exact s.whenIdle_rises (.of_tally rfl)
  · exact .refl s
theorem ansWriteDoze_rises : s.Rises (ansWriteDoze p s).state := by
  unfold ansWriteDoze; split
  · split
    · exact .refl s
    · exact s.whenIdle_rises (.of_tally rfl)
  · exact .refl s
theorem ansSave_rises : s.Rises (ansSave p s).state := by
  unfold ansSave; split
  · refine s.whenIdle_rises ?_
    split <;> exact .of_tally rfl
  · exact .refl s
theorem State.setCharge_rises (q : Nat) (clamped : Bool) : s.Rises (s.setCharge q clamped).state := by
  refine s.whenInstaller_rises ?_
  split <;> exact .of_tally rfl
theorem ansSetChargeReserve_rises : s.Rises (ansSetChargeReserve p s).state := by
  unfold ansSetChargeReserve; split
  · exact s.setCharge_rises _ _
  · exact .refl s
theorem ansSetChargeFull_rises : s.Rises (ansSetChargeFull p s).state := by
  unfold ansSetChargeFull; split
  · exact s.setCharge_rises _ _
  · exact .refl s
theorem ansSetCharge_rises : s.Rises (ansSetCharge p s).state := by
  unfold ansSetCharge; split
  · split
    exacts [ansSetChargeReserve_rises _ s, ansSetChargeFull_rises _ s, .refl s]
  · exact .refl s

/-! New selectors keep the values (R166). -/

theorem ansWriteCounters_rises : s.Rises (ansWriteCounters p s).state := by
  have kept (first : Nat) (sels : List Selector) : s.Rises (s.setSelectors first sels) :=
    State.Accounts.rises (s.selected_accounts _) not_false
  unfold ansWriteCounters; split
  · exact .refl s
  · split
    · exact .refl s
    · split_ifs
      exacts [.refl s, .refl s, s.whenIdle_rises (kept _ _)]

/-! Requests that have the Sequencer reconsider, or the outputs derived. -/

theorem ansSwitch_rises : s.Rises (ansSwitch p s).state := by
  unfold ansSwitch; split
  · split
    · exact .refl s
    · dsimp only [State.accept_state]; split
      · exact .moved (s.switchOn_moves _) (by simp [State.demandOn])
      · exact .moved (s.switchOff_moves _) (by simp [State.demandOff])
  · exact .refl s
theorem ansHold_rises : s.Rises (ansHold p s).state := by
  unfold ansHold; split
  · split
    · exact .refl s
    · dsimp only
      split_ifs
      exacts [.refl s, .of_tally rfl, .refl s, .moved (s.placeNew_moves _ _) rfl]
  · exact .refl s
theorem ansReleaseHold_rises : s.Rises (ansReleaseHold p s).state := by
  unfold ansReleaseHold; split
  · split
    · exact .refl s
    · exact .moved (s.release_moves _) rfl
  · exact .refl s
theorem ansForce_rises : s.Rises (ansForce p s).state := by
  unfold ansForce; split
  · split
    · exact .refl s
    · split
      · exact .refl s
      · split_ifs
        exacts [.refl s, .refl s, .moved (s.setForce_moves _ _) (by simp [State.forced])]
  · exact .refl s
theorem State.clearTrips_rises (set : Nat) : s.Rises (s.clearTrips set) :=
  .moved (s.clearTrips_moves set) (by simp [State.cleared])
theorem ansClearTrip_rises : s.Rises (ansClearTrip p s).state := by
  unfold ansClearTrip; split
  · dsimp only [State.accept_state]; exact s.clearTrips_rises _
  · exact .refl s
theorem ansClearUsage_rises : s.Rises (ansClearUsage p s).state := by
  unfold ansClearUsage; split
  · exact .of_tally (by simp)
  · exact .refl s
theorem ansWriteTiers_rises : s.Rises (ansWriteTiers p s).state := by
  unfold ansWriteTiers; split
  · split
    · dsimp only; split
      · exact .refl s
      · exact s.whenInstaller_rises (.moved (s.writeTier_moves _ _) rfl)
    · exact .refl s
  · exact .refl s
theorem State.setLoads_rises (new : Ch → LoadSettings) : s.Rises (s.setLoads new) :=
  .moved (s.setLoads_moves new) (by simp [State.writeLoads])
theorem ansWriteLoads_rises : s.Rises (ansWriteLoads p s).state := by
  unfold ansWriteLoads; split
  · exact .refl s
  · dsimp only; split
    · exact .refl s
    · split
      · exact .refl s
      · split
        · exact .refl s
        · split
          · exact .refl s
          · split
            · exact s.whenInstaller_rises (s.setLoads_rises _)
            · exact s.whenIdle_rises (s.setLoads_rises _)
theorem ansWriteSequence_rises : s.Rises (ansWriteSequence p s).state := by
  unfold ansWriteSequence; split
  · exact s.whenInstaller_rises (.moved (s.setSequence_moves _) rfl)
  · exact .refl s
theorem ansMove_rises : s.Rises (ansMove p s).state := by
  unfold ansMove; split
  · split
    · exact .refl s
    · exact s.whenIdle_rises (.moved (s.setOrder_moves _) rfl)
  · exact .refl s
theorem ansLoadDefaults_rises : s.Rises (ansLoadDefaults p s).state := by
  have taken : s.Rises (s.takeProfile factoryProfile).resolve := s.takeDefaults_accounts.resolve.rises not_false
  unfold ansLoadDefaults; split
  · refine s.whenInstaller_rises ?_
    rw [State.accept_state]; exact taken
  · exact .refl s
theorem ansDoze_rises : s.Rises (ansDoze p s).state := by
  unfold ansDoze; split
  · refine s.whenIdle_rises ?_
    split
    · exact .refl s
    · exact State.Accounts.rises s.enterDoze_accounts not_false
  · exact .refl s

/-! The Request Handler's choice by section and by KIND (R157, R171). -/

theorem ansProfileWrite_rises : s.Rises (ansProfileWrite p s).state := by
  unfold ansProfileWrite; split
  · exact .refl s
  · split
    exacts [ansWriteBattery_rises _ s, ansWriteTiers_rises _ s, ansWriteLoads_rises _ s, ansWriteCurve_rises _ s,
      ansWriteSequence_rises _ s, ansWriteNotice_rises _ s, ansWriteCounters_rises _ s, ansWriteDoze_rises _ s, .refl s]

/-- No KIND but that of COUNTERS_CLEAR makes a tally fall (R165). -/
theorem answerKind_rises (kind : Nat) (other : kind ≠ 0x22) : s.Rises (answerKind kind p s).state := by
  unfold answerKind; split
  exacts [ansIdent_rises p s, ansStatus_rises p s, ansLoadStatus_rises p s, ansLinkStatus_rises p s,
    ansCountersRead_rises p s, ansMeasure_rises p s, ansSwitch_rises p s, ansHold_rises p s, ansReleaseHold_rises p s,
    ansForce_rises p s, ansClearTrip_rises p s, ansClearUsage_rises p s, ansAck_rises p s, ansMask_rises p s,
    absurd rfl other, ansClearLinkCounts_rises p s, ansProfileRead_rises p s, ansProfileWrite_rises p s,
    ansMove_rises p s, ansSave_rises p s, ansLoadDefaults_rises p s, ansSetCharge_rises p s, ansDoze_rises p s,
    ansRestart_rises p s, .refl s]

end

end Sys2Proof.Machine
end

section
/-! PROOFS. Every command keeps the notices and the counts. -/

namespace Sys2Proof.Machine

/-! ### The link (R148, R152 to R155) -/

section
variable {cleared : Prop} (s : State)

/-- A change of the link in which one count at most has gone up. -/
theorem State.linkBumped_accounts {l : Link} (j n : Nat) (e : l.counts.all = s.link.counts.all.set j (bump n)) :
    s.Accounts cleared { s with link := l } := .linked s fun h => h.bumped j n e

theorem State.linkKept_accounts {l : Link} (e : l.counts = s.link.counts) : s.Accounts cleared { s with link := l } :=
  .linked s fun h => by rw [e]; exact h

theorem State.dropReply_accounts : s.Accounts cleared s.dropReply :=
  .ite (fun _ => s.linkBumped_accounts 8 _ rfl) fun _ => .refl s

theorem State.beginChar_accounts (start : Sample3) : s.Accounts cleared (s.beginChar start) :=
  .ite (fun _ => s.linkKept_accounts rfl) fun _ => s.linkKept_accounts rfl

theorem State.address_accounts (a : Nat) : s.Accounts cleared (s.address a) :=
  .ite (fun _ => s.linkKept_accounts rfl) fun _ => .refl s

theorem State.fall_accounts (start : Sample3) : s.Accounts cleared (s.fall start) :=
  .ite (fun _ => s.dropReply_accounts.trans (.resetBy _ _))
    fun _ => (s.dropReply_accounts.trans (State.exitDoze_accounts _)).trans (State.beginChar_accounts _ start)

/-! ### Requests and characters (R149 to R156) -/

/-- Handing a request over is its acceptance, its answer, and its reply or the reset that it brings (R143, R153, R154). -/
theorem State.handle_accounts (kind : Nat) (r : Req) {f : List Nat → State → Answer}
    (serves : ∀ (p : List Nat) (u : State), u.Serves (f p u).state)
    (rises : ¬cleared → ∀ (p : List Nat) (u : State), u.Rises (f p u).state) : s.Accounts cleared (s.handle kind r f) := by
  have taken : s.Accounts cleared s.frameGood := s.linkBumped_accounts 0 _ rfl
  have answered : s.Accounts cleared (f (r.payload.map BitVec.toNat) s.frameGood).state :=
    taken.trans ((serves _ _).accounts fun kept => rises kept _ _)
  exact .ite (fun _ => taken) fun _ => .ite (fun _ => .ite (fun _ => answered.trans (.resetBy _ _)) fun _ => answered)
    fun _ => answered.trans (State.linkKept_accounts _ rfl)

/-- A frame may make a tally fall only when its KIND is that of COUNTERS_CLEAR (R165). -/
theorem State.acceptFrame_accounts (frame : List Byte) (h : frame[2]? = some 0x22 → cleared) :
    s.Accounts cleared (s.acceptFrame frame) := by
  unfold State.acceptFrame; split
  · rename_i kind _ _
    refine s.handle_accounts _ _ (fun p u => answerKind_serves p u _) fun kept p u => answerKind_rises p u _ fun e => kept (h ?_)
    exact congrArg some (BitVec.eq_of_toNat_eq e)
  · exact .refl s

/-- A data character completes a frame whose KIND stands in the buffer already (R150, R153). -/
theorem State.data_accounts (d : Nat) (h : s.link.buffer[2]? = some 0x22 → cleared) : s.Accounts cleared (s.data d) := by
  simp only [State.data]
  split_ifs with _ complete
  · exact s.linkBumped_accounts 6 _ rfl
  · refine s.acceptFrame_accounts _ ?_
    rw [List.getElem?_append_left (by simp at complete; omega)]; exact h
  · exact s.linkBumped_accounts 7 _ rfl
  · exact s.linkKept_accounts rfl

theorem State.character_accounts (isAddress : Bool) (d : Nat) (h : s.link.buffer[2]? = some 0x22 → cleared) :
    s.Accounts cleared (s.character isAddress d) := by
  unfold State.character; split
  · exact .ite (fun _ => s.address_accounts d) fun _ => .refl s
  · exact .ite (fun _ => .trans (s.linkBumped_accounts 4 _ rfl) (State.address_accounts _ d)) fun _ => s.data_accounts d h
  · exact .refl s

theorem State.takeChar_accounts (fall : Nat) (c : CharSamples) (h : s.link.buffer[2]? = some 0x22 → cleared) :
    s.Accounts cleared (s.takeChar fall c) := by
  have noised (noise : Bool) (l : Link)
      (e : l.counts = if noise then { s.link.counts with noise := bump s.link.counts.noise } else s.link.counts) :
      s.Accounts cleared { s with link := l } := by
    cases noise
    · exact s.linkKept_accounts e
    · exact s.linkBumped_accounts 3 s.link.counts.noise (by rw [e]; rfl)
  exact .ite (fun _ => (noised _ _ rfl).trans (State.character_accounts _ _ _ h))
    fun _ => (noised _ _ rfl).trans (State.linkBumped_accounts _ 1 _ rfl)

/-! ### Requests and events (R144, R153) -/

variable {s}

theorem State.elapse_accounts (s : State) (dt : Nat) : s.Accounts cleared (s.elapse dt) :=
  .still (.of_chans rfl fun _ => .refl _)

theorem State.event_accounts {t : State} {dt : Nat} {f : State → State}
    (hf : (s.elapse dt).Accounts cleared (f (s.elapse dt))) (h : s.event dt f = .next t) : s.Accounts cleared t := by
  cases h
  exact (s.elapse_accounts dt).trans (.ite (fun _ => .refl _) fun _ => hf)

theorem State.request_accounts {t : State} {dt kind : Nat} {r : Req} {f : List Nat → State → Answer}
    (serves : ∀ (p : List Nat) (u : State), u.Serves (f p u).state)
    (rises : ∀ (p : List Nat) (u : State), u.Rises (f p u).state) (h : s.request dt kind r f = .next t) : s.Accounts cleared t :=
  State.event_accounts (f := fun u => if u.link.rx = .send then u
      else if u.link.reply.any Reply.thenReset then u.resetBy .request else u.handle kind r f)
    (.ite (fun _ => .refl _) fun _ => .ite (fun _ => .resetBy _ _) fun _ => State.handle_accounts _ kind r serves fun _ => rises) h

/-- COUNTERS_CLEAR may make a tally fall (R168). -/
theorem execCountersClear_accounts {t : State} {dt : Nat} {r : Req} (h : execCountersClear dt r s = .next t) (clears : cleared) :
    s.Accounts cleared t :=
  State.event_accounts (f := fun u => if u.link.rx = .send then u
      else if u.link.reply.any Reply.thenReset then u.resetBy .request else u.handle 0x22 r ansCountersClear)
    (.ite (fun _ => .refl _) fun _ => .ite (fun _ => .resetBy _ _)
      fun _ => State.handle_accounts _ _ r ansCountersClear_serves fun kept => absurd clears kept) h

/-- An event that acts under a guard. -/
theorem State.guarded_accounts {t : State} {dt : Nat} (p : State → Prop) [DecidablePred p] (f : State → State)
    (hf : ∀ u : State, p u → u.Accounts cleared (f u)) (h : s.event dt (fun u => if p u then f u else u) = .next t) :
    s.Accounts cleared t := State.event_accounts (.ite (hf _) fun _ => .refl _) h

end

/-! ### Every command -/

section
variable {cleared : Prop} (dt : Nat) (s : State) {t : State}

theorem execCharacterTaken_accounts (c : CharSamples) (h : execCharacterTaken dt c s = .next t)
    (clears : s.link.buffer[2]? = some 0x22 → cleared) : s.Accounts cleared t := by
  refine State.event_accounts ?_ h
  split
  · exact .ite (fun _ => State.takeChar_accounts _ _ _ clears) fun _ => .refl _
  · exact .refl _

theorem execReplyStart_accounts (h : execReplyStart dt s = .next t) : s.Accounts cleared t := by
  refine State.event_accounts ?_ h
  split
  · exact .ite (fun _ => State.linkKept_accounts _ rfl) fun _ => .refl _
  · exact .refl _

theorem execReplyEnd_accounts (h : execReplyEnd dt s = .next t) : s.Accounts cleared t := by
  refine State.event_accounts ?_ h
  split
  · have idle : (s.elapse dt).Accounts cleared ((s.elapse dt).onLink fun l => { l with rx := .wait, sending := none }) :=
      State.linkKept_accounts _ rfl
    exact .ite (fun _ => .ite (fun _ => idle.trans (.resetBy _ _)) fun _ => idle) fun _ => .refl _
  · exact .refl _

theorem execScanComplete_accounts (smp : Samples) (ord : CompletionOrder) (h : execScanComplete dt smp ord s = .next t) :
    s.Accounts cleared t := by
  refine State.event_accounts ?_ h
  split
  · exact .ite (fun _ => State.completeScan_accounts _ _ smp ord) fun _ => .refl _
  · exact .refl _

theorem execDebouncedChange_accounts (i : Input) (first : Bool) (h : execDebouncedChange dt i first s = .next t) :
    s.Accounts cleared t :=
  State.event_accounts (.ite (fun _ => State.takeInput_accounts _ i first) fun _ => .refl _) h

theorem execResetEnd_accounts (adr : BitVec 4) (br : BitVec 2) (h : execResetEnd dt adr br s = .next t)
    (cold : ∀ x, s.inReset = some x → x.cold = true → cleared) : s.Accounts cleared t := by
  cases reset : s.inReset with
  | none =>
    have idle : execResetEnd dt adr br s = .next (s.elapse dt) := by simp [execResetEnd, reset]
    rw [idle] at h; cases h; exact s.elapse_accounts dt
  | some r =>
    obtain ⟨p, source, ends, loaded⟩ := exec_resetEnd dt adr br s r reset
    rw [exec] at ends
    rw [ends] at h; cases h
    exact (s.elapse_accounts dt).trans (State.takesUp_accounts _ r source adr br (.of_loadable loaded) (cold r reset))

theorem execHoldExpiry_accounts (i : Ch) (h : execHoldExpiry dt i s = .next t) : s.Accounts cleared t := by
  refine State.guarded_accounts _ _ (fun u _ => .resolve (.report ?_ _ _)) h
  exact (u.dropHolds_accounts _).trans (.edge _ .holdEnd true)

theorem execSaveEnd_accounts (good : Bool) (h : execSaveEnd dt good s = .next t) : s.Accounts cleared t := by
  refine State.event_accounts ?_ h
  split
  · exact .trans (.edge _ .store true) (State.stored_accounts _ id)
  · exact .refl _

theorem resetSource_accounts (src : ResetSource) : s.Accounts cleared ((s.elapse dt).resetBy src) :=
  (s.elapse_accounts dt).trans (.resetBy _ src)

end

/-- The commands that may make a tally fall: COUNTERS_CLEAR, the last character of a frame of its KIND, and the end of a cold
reset (R165). -/
def Instr.MayClear (s : State) : Instr → Prop
  | .countersClear _ _ => True
  | .characterTaken _ _ => s.link.buffer[2]? = some 0x22
  | .resetEnd _ _ _ => ∃ x, s.inReset = some x ∧ x.cold = true
  | _ => False

/-- What every command keeps of the notices and of the counts. -/
theorem exec_accounts (c : Instr) (s t : State) (h : exec c s = .next t) : s.Accounts (Instr.MayClear s c) t := by
  cases c
  case ident => exact State.request_accounts ansIdent_serves ansIdent_rises h
  case status => exact State.request_accounts ansStatus_serves ansStatus_rises h
  case loadStatus => exact State.request_accounts ansLoadStatus_serves ansLoadStatus_rises h
  case linkStatus => exact State.request_accounts ansLinkStatus_serves ansLinkStatus_rises h
  case countersRead => exact State.request_accounts ansCountersRead_serves ansCountersRead_rises h
  case measure => exact State.request_accounts ansMeasure_serves ansMeasure_rises h
  case switch => exact State.request_accounts ansSwitch_serves ansSwitch_rises h
  case hold => exact State.request_accounts ansHold_serves ansHold_rises h
  case releaseHold => exact State.request_accounts ansReleaseHold_serves ansReleaseHold_rises h
  case force => exact State.request_accounts ansForce_serves ansForce_rises h
  case clearTrip => exact State.request_accounts ansClearTrip_serves ansClearTrip_rises h
  case clearUsage => exact State.request_accounts ansClearUsage_serves ansClearUsage_rises h
  case ack => exact State.request_accounts ansAck_serves ansAck_rises h
  case mask => exact State.request_accounts ansMask_serves ansMask_rises h
  case countersClear => exact execCountersClear_accounts h trivial
  case clearLinkCounts => exact State.request_accounts ansClearLinkCounts_serves ansClearLinkCounts_rises h
  case profileRead => exact State.request_accounts ansProfileRead_serves ansProfileRead_rises h
  case profileWriteBattery => exact State.request_accounts ansWriteBattery_serves ansWriteBattery_rises h
  case profileWriteTiers => exact State.request_accounts ansWriteTiers_serves ansWriteTiers_rises h
  case profileWriteLoads => exact State.request_accounts ansWriteLoads_serves ansWriteLoads_rises h
  case profileWriteCurve => exact State.request_accounts ansWriteCurve_serves ansWriteCurve_rises h
  case profileWriteSequence => exact State.request_accounts ansWriteSequence_serves ansWriteSequence_rises h
  case profileWriteNotice => exact State.request_accounts ansWriteNotice_serves ansWriteNotice_rises h
  case profileWriteCounters => exact State.request_accounts ansWriteCounters_serves ansWriteCounters_rises h
  case profileWriteDoze => exact State.request_accounts ansWriteDoze_serves ansWriteDoze_rises h
  case move => exact State.request_accounts ansMove_serves ansMove_rises h
  case save => exact State.request_accounts ansSave_serves ansSave_rises h
  case loadDefaults => exact State.request_accounts ansLoadDefaults_serves ansLoadDefaults_rises h
  case setChargeReserve => exact State.request_accounts ansSetChargeReserve_serves ansSetChargeReserve_rises h
  case setChargeFull => exact State.request_accounts ansSetChargeFull_serves ansSetChargeFull_rises h
  case doze => exact State.request_accounts ansDoze_serves ansDoze_rises h
  case restart => exact State.request_accounts ansRestart_serves ansRestart_rises h
  case startBit =>
    refine State.event_accounts ?_ h
    exact .ite (fun _ => .refl _) fun _ => State.fall_accounts _ _
  case characterTaken => exact execCharacterTaken_accounts _ s _ h id
  case breakHeld => exact State.guarded_accounts _ _ (fun u _ => u.linkBumped_accounts 2 _ rfl) h
  case gap => exact State.guarded_accounts _ _ (fun u _ => u.linkBumped_accounts 5 _ rfl) h
  case replyStart => exact execReplyStart_accounts _ s h
  case replyEnd => exact execReplyEnd_accounts _ s h
  case linkQuiet =>
    refine State.guarded_accounts _ _ (fun u _ => ?_) h
    exact .trans (t := u.onLink _) (u.linkKept_accounts rfl) (State.lapse_accounts _)
  case scanBegin => exact State.guarded_accounts _ _ (fun u _ => u.beginScan_accounts) h
  case scanComplete => exact execScanComplete_accounts _ s _ _ h
  case rawInputChange dt _ _ => cases h; exact (s.elapse_accounts dt).trans (State.powered_accounts _ _)
  case debouncedChange => exact execDebouncedChange_accounts _ s _ _ h
  case powerOn | supplyLow | rstn => cases h; exact resetSource_accounts _ s _
  case resetEnd => exact execResetEnd_accounts _ s _ _ h fun x reset cold => ⟨x, reset, cold⟩
  case retryExpiry i =>
    refine State.guarded_accounts _ _ (fun u due => .moves (.still ?_) (State.resolveOutputs_moves _)) h
    exact State.Still.setChan u i (Chan.toNormal_steady due.1)
  case goodRun i =>
    refine State.guarded_accounts _ _ (fun u _ => .still (State.Still.setChan u i ?_)) h
    exact ⟨⟨fun law => ⟨law.timer, Nat.zero_le _, law.overCount, law.openRun, law.settings⟩, id⟩, Iff.rfl⟩
  case runLockExpiry i =>
    exact State.guarded_accounts _ _ (fun u _ => .resolve (.still (State.Still.setChan u i (.of_rest rfl)))) h
  case restLockExpiry i =>
    refine State.guarded_accounts _ _ (fun u _ => .resolve (.moves (.still ?_) (State.derive_moves _))) h
    exact State.Still.setChan u i (.of_rest rfl)
  case blankingEnd i => exact State.guarded_accounts _ _ (fun u _ => .still (State.Still.setChan u i (.of_rest rfl))) h
  case shedSpacingEnd | restoreSpacingEnd | settleTimeEnd =>
    exact State.guarded_accounts _ _ (fun u _ => .resolve (.refl u)) h
  case holdExpiry => exact execHoldExpiry_accounts _ s _ h
  case saveEnd => exact execSaveEnd_accounts _ s _ h

/-- Every step keeps them: the queue bears on none. -/
theorem step_accounts {s t : State} (h : step s = .next t) : ∃ cleared, s.Accounts cleared t := by
  unfold step at h
  split at h
  · cases h; exact ⟨True, .refl s⟩
  · rename_i c rest _
    have queue : s.Accounts (Instr.MayClear { s with pending := rest } c) { s with pending := rest } :=
      .still (.of_chans rfl fun _ => .refl _)
    exact ⟨_, queue.trans (exec_accounts c _ t h)⟩

/-! ### The laws (R14, R80, R81, R87, R88, R155, R162, R163, R165, R173) -/

/-- Settles O11: every change of a latch or of a mask forms ALERTN again (`Notices.form_formed`), so every command keeps it formed
(`exec_accounts`). -/
theorem everyStepKeepsTheAlertLaw : Obligations.EveryStepKeepsTheAlertLaw := by
  intro s t law h
  obtain ⟨_, kept⟩ := step_accounts h
  exact t.alertLaw_iff.2 (kept.alert (s.alertLaw_iff.1 law))

/-- Settles O12: a level latch follows its condition wherever the condition may change (`State.Levelled.level`), with the cutoff's
fixed measure and flag in the invariant (`State.Levelled`), by which no write and no input suppresses it. -/
theorem everyStepKeepsTheLevelLaw : Obligations.EveryStepKeepsTheLevelLaw := by
  intro s t tiers law h
  obtain ⟨_, kept⟩ := step_accounts h
  exact (kept.level (law.levelled tiers)).law

/-- Settles O13: each channel's changes are sound (`Chan.Guards`), and every count goes up to its ceiling at most
(`State.Accounts`). -/
theorem everyStepKeepsTheCeilingAndTheProtectionLaw : Obligations.EveryStepKeepsTheCeilingAndTheProtectionLaw := by
  intro s t h
  obtain ⟨_, kept⟩ := step_accounts h
  exact ⟨fun law => ⟨kept.tallies law.tallies, fun i => (kept.chans i).usage (law.usages i), kept.link law.link,
      kept.erases law.erases, kept.scans law.scans⟩,
    fun law i => (kept.chans i).protection (law i)⟩

/-- Settles O16: a command that may not clear a tally leaves none below its value (`exec_accounts`). -/
theorem tallyFallsOnlyByClearOrColdReset : Obligations.TallyFallsOnlyByClearOrColdReset := by
  intro c s t k h le falls
  have may : Instr.MayClear s c := by
    by_contra kept
    exact absurd ((exec_accounts c s t h).rises kept k le).1 (Nat.not_le_of_lt falls)
  cases c
  case countersClear dt r => exact .inl ⟨dt, r, rfl⟩
  case characterTaken dt cs => exact .inr (.inl ⟨dt, cs, rfl, may⟩)
  case resetEnd dt adr br =>
    obtain ⟨x, reset, cold⟩ := may
    exact .inr (.inr ⟨dt, adr, br, x, rfl, reset, cold⟩)
  all_goals exact may.elim

end Sys2Proof.Machine
end

section
/-! PROOFS. PROFILE_READ, SAVE with its end, and LOAD_DEFAULTS. -/

namespace Sys2Proof.Machine

/-! ### PROFILE_READ (R172) -/

/-- A character is carried as it stands (R150). -/
theorem u8_toNat (x : Byte) : u8 x.toNat = [x] := by rw [u8, BitVec.ofNat_toNat, BitVec.setWidth_eq]

/-- No section has a code outside 1 to 9 (R170, R172). -/
theorem Profile.read_unknown (p : Profile) {sec : Nat} (index count : Nat) (unknown : sec = 0 ∨ 9 < sec) :
    p.read sec index count = none := by
  rcases unknown with rfl | beyond
  · rfl
  · obtain ⟨n, rfl⟩ := Nat.exists_eq_add_of_le' beyond
    rfl

/-- One position of ORDER is read as the number of the channel that stands there (R172). -/
theorem Profile.read_position (p : Profile) {index : Nat} {i : Ch} (first : 1 ≤ index)
    (stands : p.order[index - 1]? = some i) : p.read 4 index 1 = some (u8 (i.val + 1)) := by
  obtain ⟨inside, here⟩ := List.getElem?_eq_some_iff.1 stands
  have one : (p.order.drop (index - 1)).take 1 = [i] := by
    rw [List.drop_eq_getElem_cons inside, here, List.take_succ_cons, List.take_zero]
  change readRange (fun i => u8 (channelNo i)) p.order 1 24 index 1 = _
  rw [readRange, if_pos (by omega), one]
  simp [channelNo]

section
variable (s : State) {sec index count : Nat} (named : ¬(sec = 3 ∧ (index = 0 ∨ 24 < index)))
include named

/-- Beside the channel that a LOADS reading must name, the live sections decide what PROFILE_READ answers (R172). -/
theorem ansProfileRead_some {field : List Byte} (read : s.gather.read sec index count = some field) :
    ansProfileRead [sec, index, count] s = s.accept .ok (u8 sec ++ u8 index ++ u8 count ++ field) := by
  simp only [ansProfileRead, if_neg named, read]

theorem ansProfileRead_none (read : s.gather.read sec index count = none) :
    ansProfileRead [sec, index, count] s = s.refuse .badValue := by
  simp only [ansProfileRead, if_neg named, read]

end

/-- Settles O23: a section other than LOADS is answered as it is gathered (`ansProfileRead_some`), a position of ORDER by
`Profile.read_position`, and a code that names no section is refused (`Profile.read_unknown`). -/
theorem profileReadAnswers : Obligations.ProfileReadAnswers := by
  intro dt tag x y n s hears u b
  have answered (p : List Byte) {a : Answer} :=
    State.request_answered s dt 0x30 tag p ansProfileRead hears (by decide) (a := a)
  refine ⟨?battery, fun i stands first _ => ?order, fun outside => ?badChannel, fun unknown => ?badValue⟩
  case battery =>
    have live : u.est.battery = b := congrArg Estimator.battery (s.taken_est dt)
    have read : u.gather.read 1 0 1 = some b.field := by rw [← live]; rfl
    exact answered [1, 0, 1] (ansProfileRead_some u (by decide) read)
  case order =>
    have read := u.gather.read_position (i := i) first (by rw [State.taken_gather]; exact stands)
    have answer := ansProfileRead_some u (by omega) read
    rw [u8_toNat] at answer
    exact answered [4, x, 1] answer
  case badChannel =>
    exact answered [3, x, n] (a := u.refuse .badChannel) (if_pos ⟨rfl, outside⟩)
  case badValue =>
    exact answered [x, y, n] (a := u.refuse .badValue) (ansProfileRead_none u (by omega) (Profile.read_unknown _ _ _ unknown))

/-! ### SAVE and SAVE_END (R173, R174) -/

/-- SAVE outside a save: WORN where the store takes no more erases, and otherwise the start of a save (R173). -/
theorem ansSave_idle (s : State) (idle : s.isSaving = false) : ansSave [] s =
    if 10000 ≤ s.store.eraseCount then s.refuse .worn else s.startSave.accept .ok [] := by
  rw [ansSave, State.whenIdle_granted _ _ idle]
  rfl

/-- The end of a save makes the image, records the outcome and sets STORE (R174). -/
theorem exec_saveEnd (dt : Nat) (good : Bool) (s : State) {p : Profile} (awake : s.inReset = none)
    (saving : s.store.saving = some p) : exec (.saveEnd dt good) s = .next { s with
      now := s.now + dt
      store := { s.store with
        image := if good then some ⟨1, p, crc16 (u8 1 ++ p.field)⟩ else none
        saving := none
        outcome := if good then .done else .failed }
      notices := s.notices.edge .store true } := by
  simp only [exec, execSaveEnd]
  rw [State.event_eq _ _ _ awake]
  simp only [State.elapse_store, saving]
  rfl

/-- Settles O39: SAVE is refused during a save and by a worn store, and otherwise starts one (`ansSave_idle`), which SAVE_END ends
with the notice STORE (`exec_saveEnd`). -/
theorem saveGathersAndEnds : Obligations.SaveGathersAndEnds := by
  intro dt tag good s
  have answered {a : Answer} (hears : s.Hears) :=
    State.request_answered s dt 0x33 tag [] ansSave hears (by decide) (a := a)
  have judged (idle : s.isSaving = false) := ansSave_idle (s.taken dt) (by rw [State.taken_isSaving]; exact idle)
  simp only [State.taken_store] at judged
  refine ⟨fun hears saving => ?busy, fun hears idle worn => ?worn, fun hears idle fresh => ?starts,
    fun p awake saving => ?ends⟩
  case busy => exact answered hears (State.whenIdle_refused _ _ (by rw [State.taken_isSaving]; exact saving))
  case worn => exact answered hears ((judged idle).trans (if_pos worn))
  case starts =>
    have runs := answered hears ((judged idle).trans (if_neg (Nat.not_le_of_lt fresh)))
    simp only [State.accept, State.startSave, State.taken_store, State.taken_gather] at runs
    exact runs
  case ends =>
    exact ⟨_, exec_saveEnd dt good s awake saving, rfl, s.notices.edge_latch .store true, s.notices.edge_mask .store true,
      s.notices.edge_ackMark .store true⟩

/-! ### LOAD_DEFAULTS (R175) -/

/-- What is gathered rests on nothing that a move changes (R173). -/
theorem State.Moves.gather {s t : State} (h : s.Moves t) : t.gather = s.gather := by
  have load (i : Ch) : t.chans[i].cfg = s.chans[i].cfg := (h.chans i).cfg
  have selector (k : Fin 8) : t.tally[k].sel = s.tally[k].sel := (h.tally k).sel
  simp only [State.gather, h.est, h.tiers, h.order, h.seqCfg, h.notices, h.power, load, selector]

/-- A counter of a kind of event on which the part is silent keeps a value within its ceiling (R165). -/
theorem State.Silent.value {s t : State} {kind : EventKind} (h : s.Silent kind t) (k : Fin 8)
    (selected : s.tally[k].sel.kind = kind) (le : s.tally[k].value ≤ Config.totalMax) :
    t.tally[k].value = s.tally[k].value := by
  rcases h k selected with kept | capped
  · rw [kept]
  · rw [capped]; exact Nat.min_eq_right le

section
variable (s : State) (p : Profile)

/-! What each owner makes of a profile that is handed out (R175). -/

theorem State.takeProfile_get (i : Ch) : (s.takeProfile p).chans[i] = s.chans[i].write p.loads[i] := by
  simp only [State.takeProfile]; exact s.writeLoads_get (fun i => p.loads[i]) i

theorem State.takeProfile_tier (k : Fin 5) : (s.takeProfile p).tiers.recs[k].cfg = p.tiers[k] := by
  simp only [State.takeProfile, TierMonitor.writeAll_get]; exact TierRecord.write_cfg _ _ _

theorem State.takeProfile_tally (k : Fin 8) : (s.takeProfile p).tally[k] = { s.tally[k] with sel := p.counters[k] } := by
  simp [State.takeProfile, State.writeLoads]

theorem State.takeProfile_scanner : (s.takeProfile p).scanner = s.scanner := by simp [State.takeProfile, State.writeLoads]

theorem State.takeProfile_store : (s.takeProfile p).store = s.store := by simp [State.takeProfile, State.writeLoads]

theorem State.takeProfile_powerState : (s.takeProfile p).power.st = s.power.st := by
  simp [State.takeProfile, State.writeLoads]

/-- The owners then hold the profile that was handed out (R175). -/
theorem State.takeProfile_gather : (s.takeProfile p).gather = p := by
  have battery : (s.takeProfile p).est.battery = p.battery := by
    rw [State.takeProfile_est, Estimator.setBattery_eq]; split <;> rfl
  have tiers : (Vector.ofFn fun k : Fin 5 => (s.takeProfile p).tiers.recs[k].cfg) = p.tiers := by
    ext1 k hk; simp only [State.takeProfile_tier]; simp
  have loads : (Vector.ofFn fun i : Ch => (s.takeProfile p).chans[i].cfg) = p.loads := by
    ext1 i hi; simp only [State.takeProfile_get, Chan.write_cfg]; simp
  have counters : (Vector.ofFn fun k : Fin 8 => (s.takeProfile p).tally[k].sel) = p.counters := by
    ext1 k hk; simp only [State.takeProfile_tally]; simp
  rw [State.gather, battery, tiers, loads, counters]
  rfl

/-- The Estimator keeps its state, its window and the unconfirmed flag, and Q is rescaled on a change of capacity (R36, R175). -/
theorem State.takeProfile_estimate :
    let e := (s.takeProfile p).est
    e.q = (if s.est.battery.capacity = p.battery.capacity then s.est.q
      else s.est.q * (p.battery.capacity * 3600000) / (s.est.battery.capacity * 3600000)) ∧
    e.st = s.est.st ∧ e.unconfirmed = s.est.unconfirmed ∧ e.window = s.est.window := by
  rw [State.takeProfile_est, Estimator.setBattery_eq]
  by_cases same : p.battery.capacity = s.est.battery.capacity
  · simp only [if_pos same, if_pos same.symm, Estimator.setCurve, and_self]
  · simp only [if_neg same, if_neg (Ne.symm same), Estimator.setCurve, BatterySettings.full, and_self]

/-! What LOAD_DEFAULTS leaves after the Sequencer and the outputs have followed (R175). -/

/-- A fitted channel keeps its demand, protection and force, and every channel its usage (R67, R175). -/
theorem State.takeDefaults_load (i : Ch) :
    let c := (s.takeProfile factoryProfile).resolve.chans[i]
    c.usage = s.chans[i].usage ∧ (s.chans[i].cfg.fitted = true →
      c.demand = s.chans[i].demand ∧ c.prot = s.chans[i].prot ∧ c.force = s.chans[i].force) := by
  have moved := (State.resolve_moves (s.takeProfile factoryProfile)).chans i
  rw [State.takeProfile_get] at moved
  refine ⟨moved.usage.trans (Chan.write_usage _ _), fun fitted => ?_⟩
  have same : s.chans[i].cfg.fitted = factoryProfile.loads[i].fitted := by rw [fitted]; simp [factoryProfile, factoryLoad]
  obtain ⟨demand, prot, -, force⟩ := Chan.write_stands same
  exact ⟨moved.demand.trans demand, moved.prot.trans prot, moved.force.trans force⟩

/-- A factory selector counts no event, so that a counter keeps a value within its ceiling (R165, R168, R175). -/
theorem State.takeDefaults_value (k : Fin 8) (le : s.tally[k].value ≤ Config.totalMax) :
    ((s.takeProfile factoryProfile).resolve.tally[k]).value = s.tally[k].value := by
  have silent : (s.takeProfile factoryProfile).Silent .none (s.takeProfile factoryProfile).resolve :=
    State.resolve_silent _ ⟨by decide, by decide, by decide⟩
  have kept := silent.value k
  rw [State.takeProfile_tally] at kept
  exact kept (by simp [factoryProfile, factorySelector]) le

end

/-- Settles O40: every owner holds its factory section (`State.takeProfile_gather`), with Q rescaled
(`State.takeProfile_estimate`), and what follows is a move of the Sequencer (`State.resolve_moves`), which changes no section and
leaves the loads and the counters as `State.takeDefaults_load` and `State.takeDefaults_value` say. -/
theorem loadDefaultsHandsOutTheFactoryProfile : Obligations.LoadDefaultsHandsOutTheFactoryProfile := by
  intro dt tag s hears install idle
  have runs := State.request_answered s dt 0x34 tag [] ansLoadDefaults hears (by decide)
    (State.whenInstaller_granted (s.taken dt) _ (by rw [State.taken_power]; exact install)
      (by rw [State.taken_isSaving]; exact idle))
  rw [State.accept_state] at runs
  have moves := State.resolve_moves ((s.taken dt).takeProfile factoryProfile)
  have gather := moves.gather.trans (State.takeProfile_gather _ _)
  have scanner := moves.scanner.trans (State.takeProfile_scanner _ _)
  have store := moves.store.trans (State.takeProfile_store _ _)
  have power := (congrArg Power.st moves.power).trans (State.takeProfile_powerState _ _)
  obtain ⟨q, st, unconfirmed, window⟩ := (s.taken dt).takeProfile_estimate factoryProfile
  rw [← moves.est, State.taken_est] at q st unconfirmed window
  have load := (s.taken dt).takeDefaults_load
  have value := (s.taken dt).takeDefaults_value
  rw [State.taken_scanner] at scanner
  rw [State.taken_store] at store
  rw [State.taken_power] at power
  simp only [State.taken_chans] at load
  simp only [State.taken_tally] at value
  generalize ((s.taken dt).takeProfile factoryProfile).resolve = t at *
  obtain ⟨-, -, -, -, -, -, mask, selector, -⟩ := State.gather_fields gather
  refine ⟨_, runs, gather, q, st, unconfirmed, window, scanner, store, power, mask, load,
    fun k => ⟨(selector k).trans ?_, fun law => value k (law.tallies k)⟩, State.answered_replies _ _ _ _ _⟩
  simp [factoryProfile, factorySelector]

end Sys2Proof.Machine
end

section
/-! PROOFS. The queue: a step for each of its two shapes. -/

namespace Sys2Proof.Machine

/-- The command at the front is run in the state whose queue is the rest (notes/assumptions/2.md). -/
theorem step_of_pending_cons {c : Instr} {rest : List Instr} {s : State} (queued : s.pending = c :: rest) :
    step s = exec c { s with pending := rest } := by
  rw [step, queued]

/-- A part with nothing queued idles, and no time passes (notes/assumptions/2.md). -/
theorem step_of_pending_nil {s : State} (empty : s.pending = []) : step s = .next s := by
  rw [step, empty]

/-- Settles O1: a queue has a command at its front (`step_of_pending_cons`) or is empty (`step_of_pending_nil`). -/
theorem stepTakesTheFrontCommand : Obligations.StepTakesTheFrontCommand :=
  ⟨fun _ _ _ => step_of_pending_cons, fun _ => step_of_pending_nil⟩

end Sys2Proof.Machine
end
